-- ==== Sys2Proof/Word.lean ====
section
/-! DEFINITION. The two word types of the block and the slice notation of 00_scope.md R13. All values are unsigned
(R13); natural numbers stand for unbounded quantities (R14). -/

namespace Sys2Proof

/-- One brightness cell, one frame byte (10_state.md R21, 30_encoding.md R85). -/
abbrev Byte := BitVec 8

/-- The 24-bit frame word, also the width of `SHADOW` and `LATCHED` (30_encoding.md R85, 10_state.md R27, R28). -/
abbrev FrameWord := BitVec 24

end Sys2Proof
end

