-- ==== Sys2Proof/Config.lean ====
section
/-! DEFINITION. The configuration `CFG` of 00_scope.md R10 and the model's one free value. Which configurations are
legal is decided in Machine/Ops.lean. -/

namespace Sys2Proof

/-- The parameters of 00_scope.md R10. No operation writes a configuration (10_state.md R30). -/
structure Config where
  /-- `LAYER_MASK_BASE`: 0x02 is wiring variant A, 0x10 variant B (10_state.md R31). -/
  layerMaskBase : Byte
  /-- `FILL_ORDER.all`: the flat cell addresses in the order FILL writes them (41_voxel_grid.md R144). -/
  fillOrderAll : List Nat
  /-- `FILL_ORDER.layer`: the columns in the order FILLLAYER writes them (R145). -/
  fillOrderLayer : List Nat
  /-- `T_TICK` in nanoseconds. No rule depends on it (70_reset_and_hazards.md R260). -/
  tTick : Nat
  /-- `T_SETTLE` in nanoseconds. No rule depends on it (40_serial_link.md R119). -/
  tSettle : Nat
  /-- `BRIGHT_W`: the width of a brightness cell in bits. The spec fixes it at 8 (decision D3, log 20), the width of the
  `Byte` a cell is, and 8 is the one legal value. -/
  brightW : Nat
deriving DecidableEq, Repr

/-- The spec's default wiring (decision D2, log 2), its suggested fill orders (decision D8, log 4), the tick period
R171 works out for 100 Hz and the default settling time (decision D9, log 5), and the width the spec fixes (decision D3, log 20). DESIGN CHOICE: unsafe for a claim that
is stated only at this configuration. -/
def Config.default : Config where
  layerMaskBase := 0x02
  fillOrderAll := List.range 64
  fillOrderLayer := List.range 16
  tTick := 156250
  tSettle := 0
  brightW := 8

/-- `any_24()` of 00_scope.md R17: what a register of the chain holds after a RESET (70_reset_and_hazards.md R241). It
has no body, so nothing can be proved of its value. It may depend on the draw and on what the register held, so it
covers both a power-up and a RESET that leaves the chain alone (decision D7, log 7). DESIGN CHOICE of form: safe. -/
opaque Config.any24 (draw : Nat) (held : FrameWord) : FrameWord

end Sys2Proof
end

