-- ==== Sys2Proof/Syntax.lean ====
section
/-! DEFINITION. The interfaces of the block, the request words they carry, and the operations: one constructor of
`Instr` per row of spec/opcode_table.json (30_encoding.md R80, R94). -/

namespace Sys2Proof

/-- The request formats of 30_encoding.md R81, R84 and R85, one per interface. -/
inductive Format where
  /-- the request interface -/
  | req
  /-- the read port -/
  | portR
  /-- the serializer's bit interface -/
  | bit
  /-- the serializer's byte and commit interface -/
  | ser
  /-- the serializer's frame interface -/
  | frame
  /-- the argument record of FILL -/
  | fillArg
  /-- the argument record of FILLLAYER -/
  | fillLayerArg
deriving DecidableEq, Repr

/-- The width of each format in bits (R81, R84, R85). -/
def Format.width : Format → Nat
  | .req => 17
  | .portR => 6
  | .bit => 1
  | .ser => 9
  | .frame => 24
  | .fillArg => 8
  | .fillLayerArg => 10

/-- One request: the interface it is presented on and the word its signals carry. Rows of different formats belong to
different interfaces (R94), so the format is part of the request and not of its bits. -/
structure Request where
  format : Format
  word : Nat
deriving DecidableEq, Repr

/-- The operations of 30_encoding.md R80 and the reserved row of R89. The operands of SET, GET, FILL and FILLLAYER are
unbounded, so that the contract violations of 60_exceptions.md R211 can be expressed; `WellFormed` says what the
hardware's fields can hold. -/
inductive Instr where
  /-- RESET, R241 -/
  | reset
  /-- the reserved request with TICK and WE both 1, R89 -/
  | reservedTickAndWe
  /-- TICK, R160 -/
  | tick
  /-- SET, R141 -/
  | set (layer column brightness : Nat)
  /-- IDLE, R83 -/
  | idle
  /-- GET, R142 -/
  | get (layer column : Nat)
  /-- SHIFTBIT, R111 -/
  | shiftbit (b : Bool)
  /-- TXBYTE, R112 -/
  | txbyte (b : Byte)
  /-- COMMIT, R113 -/
  | commit
  /-- EMITFRAME: layerSelect, columnsHigh, columnsLow, R116 -/
  | emitframe (s h l : Byte)
  /-- FILL, R144 -/
  | fill (brightness : Nat)
  /-- FILLLAYER, R145 -/
  | filllayer (layer brightness : Nat)
deriving DecidableEq, Repr

end Sys2Proof
end

