-- ==== Sys2Proof/WellFormed.lean ====
section
/-! DEFINITION. What the hardware's operand fields can hold: 2-bit layer, 4-bit column, 8-bit brightness
(30_encoding.md R88, 41_voxel_grid.md R143, R146), and which words an interface can carry (R81, R84, R85). -/

namespace Sys2Proof

/-- Every operand fits its field (R88). -/
def Instr.wellFormed : Instr → Bool
  | .reset => true
  | .reservedTickAndWe => true
  | .tick => true
  | .set layer column brightness => decide (layer < 4) && decide (column < 16) && decide (brightness < 256)
  | .idle => true
  | .get layer column => decide (layer < 4) && decide (column < 16)
  | .shiftbit _ => true
  | .txbyte _ => true
  | .commit => true
  | .emitframe _ _ _ => true
  | .fill brightness => decide (brightness < 256)
  | .filllayer layer brightness => decide (layer < 4) && decide (brightness < 256)

/-- The word fits the interface's signals. -/
def Request.wellFormed (r : Request) : Bool := decide (r.word < 2 ^ r.format.width)

end Sys2Proof
end

