-- ==== Sys2Proof/Decode.lean ====
section
/-! DEFINITION. Decoding of request words, their encoding, and the reading of a word of spec/opcode_table.json. The
layouts are the spec's own choice (30_encoding.md R81, R84, decision D11; log 17). -/

namespace Sys2Proof

/-- `v[hi:lo]`, the slice of bits `hi` down to `lo` (00_scope.md R13). -/
def slice (v hi lo : Nat) : Nat := v / 2 ^ lo % 2 ^ (hi + 1 - lo)

/-- Why a request is not decoded. -/
inductive DecodeReject where
  /-- The word has a bit set above the interface's width, which no signal of the interface can carry (log 12). -/
  | wordTooWide (f : Format)
deriving DecidableEq, Repr

/-- Format REQ, tested in the order of 30_encoding.md R82: RESET, the reserved pattern, TICK, SET, IDLE. -/
def decodeReq (w : Nat) : Instr :=
  if slice w 16 16 = 1 then .reset
  else if slice w 15 14 = 3 then .reservedTickAndWe
  else if slice w 15 15 = 1 then .tick
  else if slice w 14 14 = 1 then .set (slice w 13 12) (slice w 11 8) (slice w 7 0)
  else .idle

/-- Format SER: bit 8 tells COMMIT from TXBYTE (30_encoding.md R84). -/
def decodeSer (w : Nat) : Instr :=
  if slice w 8 8 = 1 then .commit else .txbyte (BitVec.ofNat 8 (slice w 7 0))

/-- The operation a request word selects (R81, R82, R84, R85), or the name of what is wrong with it. -/
def decode (r : Request) : Except DecodeReject Instr :=
  if r.word < 2 ^ r.format.width then
    .ok (match r.format with
      | .req => decodeReq r.word
      | .portR => .get (slice r.word 5 4) (slice r.word 3 0)
      | .bit => .shiftbit (slice r.word 0 0 == 1)
      | .ser => decodeSer r.word
      | .frame => .emitframe (BitVec.ofNat 8 (slice r.word 23 16)) (BitVec.ofNat 8 (slice r.word 15 8))
          (BitVec.ofNat 8 (slice r.word 7 0))
      | .fillArg => .fill (slice r.word 7 0)
      | .fillLayerArg => .filllayer (slice r.word 9 8) (slice r.word 7 0))
  else .error (.wordTooWide r.format)

/-- The request of an operation, with every ignored bit 0 (30_encoding.md R91, R92; the reserved row's word is the
`match` of its table row). -/
def encode : Instr → Request
  | .reset => ⟨.req, 0x10000⟩
  | .reservedTickAndWe => ⟨.req, 0x0C000⟩
  | .tick => ⟨.req, 0x08000⟩
  | .set layer column brightness => ⟨.req, 0x04000 + 0x1000 * layer + 0x100 * column + brightness⟩
  | .idle => ⟨.req, 0x00000⟩
  | .get layer column => ⟨.portR, 16 * layer + column⟩
  | .shiftbit b => ⟨.bit, b.toNat⟩
  | .txbyte b => ⟨.ser, b.toNat⟩
  | .commit => ⟨.ser, 0x100⟩
  | .emitframe s h l => ⟨.frame, 0x10000 * s.toNat + 0x100 * h.toNat + l.toNat⟩
  | .fill brightness => ⟨.fillArg, brightness⟩
  | .filllayer layer brightness => ⟨.fillLayerArg, 0x100 * layer + brightness⟩

/-- The formats from the narrowest to the widest. -/
def formatsByWidth : List Format := [.bit, .portR, .fillArg, .ser, .fillLayerArg, .req, .frame]

/-- The request a table row's word stands for. The table numbers a word's bits but a word does not say on which
interface it is presented, and several formats share a number of whole bytes: a width that only one format has selects
it, else the narrowest format of that many bytes that can carry the word. DESIGN CHOICE (log 11): safe, since only this
reading of table rows uses it and a machine's request carries its format. -/
def tableRequest (nbits w : Nat) : Option Request :=
  match formatsByWidth.find? (fun f => decide (f.width = nbits) && decide (nbits % 8 ≠ 0)) with
  | some f => some ⟨f, w⟩
  | none =>
    match formatsByWidth.find? (fun f => decide ((f.width + 7) / 8 = (nbits + 7) / 8) && decide (w < 2 ^ f.width)) with
    | some f => some ⟨f, w⟩
    | none => none

/-- The operation the decoder reads from a word of spec/opcode_table.json. -/
def decodeTableWord (nbits w : Nat) : Option Instr :=
  match tableRequest nbits w with
  | none => none
  | some r =>
    match decode r with
    | .ok i => some i
    | .error _ => none

end Sys2Proof
end

