-- ==== Sys2Proof/Machine/State.lean ====
section
/-! DEFINITION. The state of the block, its attached chain and the model's own records, the named updates of State,
the reset state, and the reasons a step can stop. The inventory of the spec's state is closed by 10_state.md R20. -/

namespace Sys2Proof.Machine

/-- `CUR`: the layer and sub-step of the frame now shown (10_state.md R23, R24). -/
structure Cursor where
  layer : BitVec 2
  subStep : BitVec 4
deriving DecidableEq, Repr

/-- `PIN`: the three output pins (10_state.md R26). -/
structure Pins where
  data : Bool
  clock : Bool
  latch : Bool
deriving DecidableEq, Repr

/-- The names of the pins, for pin writes (40_serial_link.md R110). -/
inductive Pin where
  | data
  | clock
  | latch
deriving DecidableEq, Repr

/-- One entry of the pin trace: the pin and the level written (R110). -/
abbrev PinWrite := Pin × Bool

/-- The grid `G` as cells at their flat addresses (20_memory.md R51): addresses rising, no cell equal to 0 listed. -/
abbrev Grid := List Host.Cell

/-- One entry of the event order the environment chose (20_memory.md R63, R66; log 9). -/
inductive Turn where
  /-- The environment presents this request in program order: once no SET of a FILL or FILLLAYER is owed any more. -/
  | request (r : Request)
  /-- The environment presents this request at once, between two owed SETs if there are any (R65). -/
  | preempt (r : Request)
  /-- The foreground presents the next SET of the FILL or FILLLAYER it is performing, or nothing when it owes none
  (R65; log 10). -/
  | foreground
deriving DecidableEq, Repr

/-- Everything the machine holds. -/
structure State where
  /-- `G`, 10_state.md R21. -/
  grid : Grid
  /-- `CUR`, R23 and R24. -/
  cur : Cursor
  /-- `PIN`, R26. -/
  pins : Pins
  /-- `SHADOW`, R27. -/
  shadow : FrameWord
  /-- `LATCHED`, R28. -/
  latched : FrameWord
  /-- `CFG`, R30: a parameter the spec does not count as state. No operation writes it (log 1). -/
  cfg : Config
  /-- The pin trace, the observation record of R33, oldest first. Nothing reads it (log 8). -/
  trace : List PinWrite
  /-- The bytes GET has returned, oldest first (41_voxel_grid.md R142). Nothing reads it (log 8). -/
  results : List Byte
  /-- What the environment presents next (log 9). -/
  input : List Turn
  /-- The SET words of FILL and FILLLAYER calls not yet presented (30_encoding.md R92; log 10). -/
  pending : List Request
  /-- How many free values have been drawn (log 7). -/
  draws : Nat
deriving DecidableEq, Repr

/-! The named updates of State; their laws are in Laws/State.lean. -/

def State.setGrid (s : State) (v : Grid) : State := { s with grid := v }
def State.setCur (s : State) (v : Cursor) : State := { s with cur := v }
def State.setPins (s : State) (v : Pins) : State := { s with pins := v }
def State.setShadow (s : State) (v : FrameWord) : State := { s with shadow := v }
def State.setLatched (s : State) (v : FrameWord) : State := { s with latched := v }
def State.setTrace (s : State) (v : List PinWrite) : State := { s with trace := v }
def State.setResults (s : State) (v : List Byte) : State := { s with results := v }
def State.setInput (s : State) (v : List Turn) : State := { s with input := v }
def State.setPending (s : State) (v : List Request) : State := { s with pending := v }
def State.setDraws (s : State) (v : Nat) : State := { s with draws := v }

/-- The machine after startup: the values of 10_state.md R36, with the cursor and pin values of decisions D1 and D6
(log 16), the chain at the value log 6 names (DESIGN CHOICE, unsafe: the spec leaves it unspecified), the configuration
at `Config.default` and nothing asked for yet (log 9). -/
def State.reset : State where
  grid := []
  cur := ⟨0, 0⟩
  pins := ⟨false, false, false⟩
  shadow := 0
  latched := 0
  cfg := Config.default
  trace := []
  results := []
  input := []
  pending := []
  draws := 0

/-- The causes of a contract violation (60_exceptions.md R211), with the values R211 records. -/
inductive ContractCause where
  /-- A layer above 3 or a column above 15. FILLLAYER names no column (41_voxel_grid.md R145). -/
  | outOfRangeIndex (layer : Nat) (column : Option Nat)
  /-- A brightness above 255. -/
  | brightnessTooWide (brightness : Nat)
deriving DecidableEq, Repr

/-- Why the machine stops with a fault. -/
inductive Fault where
  /-- Raised by SET, GET, FILL and FILLLAYER on operands wider than the hardware's fields, with no state change
  (R211, R143, R146). Safe: no run passes through it, and no request word can cause it. -/
  | contractViolation (cause : ContractCause)
deriving DecidableEq, Repr

/-- Why the model has no meaning for a request. -/
inductive Refusal where
  /-- Raised by an arm of `exec` whose operation has no meaning yet; no arm is one. Safe: no run passes through it. -/
  | notModelled (mnemonic : String)
  /-- Raised by the reserved request with TICK and WE both 1 (30_encoding.md R89, 60_exceptions.md R212). Safe: the
  spec says to refuse rather than pick an order. -/
  | simultaneousTickAndWrite
  /-- Raised by every step, and by an operation that reads the parameter, when the configuration holds a value
  00_scope.md R10 does not call legal (10_state.md R31, R212; log 3). Safe. -/
  | illegalConfig
  /-- Raised by a step whose request is not decoded (log 12). Safe: no interface can carry such a word. -/
  | undecoded (why : DecodeReject)
deriving DecidableEq, Repr

end Sys2Proof.Machine
end

