-- ==== Sys2Proof/Machine/Ops.lean ====
section
/-! DEFINITION. The operations every meaning is written over: the grid's cells, the pins with the attached chain, the
legal configurations, and raising a contract violation. -/

namespace Sys2Proof.Machine

/-! The grid, 20_memory.md R50 to R55. -/

/-- The flat address of cell (layer, column), R51. -/
def cellAddr (layer column : Nat) : Nat := 16 * layer + column

/-- What a cell that is not listed holds: the reset content of 10_state.md R36. -/
def cellDefault : Byte := 0

/-- `MemRead(a, 1)` (00_scope.md R16). Reading changes nothing (R55). -/
def gridRead : Grid → Nat → Byte
  | [], _ => cellDefault
  | (b, v) :: rest, a => if b = a then v else gridRead rest a

/-- `MemWrite(a, 1, v)` (00_scope.md R16): the one cell takes the value (R53, R54). -/
def gridWrite : Grid → Nat → Byte → Grid
  | [], a, v => if v = cellDefault then [] else [(a, v)]
  | (b, w) :: rest, a, v =>
    if a < b then (if v = cellDefault then (b, w) :: rest else (a, v) :: (b, w) :: rest)
    else if a = b then (if v = cellDefault then rest else (a, v) :: rest)
    else (b, w) :: gridWrite rest a v

/-- The canonical form: addresses strictly rising and below 64, no listed cell at the default. -/
def gridWf : Grid → Bool
  | [] => true
  | (a, v) :: rest => decide (a < 64) && decide (v ≠ cellDefault) && rest.all (fun c => decide (a < c.1)) && gridWf rest

/-- The cell a state holds at a flat address. -/
def State.readCell (s : State) (a : Nat) : Byte := gridRead s.grid a

/-- Store one cell. -/
def State.writeCell (s : State) (a : Nat) (v : Byte) : State := s.setGrid (gridWrite s.grid a v)

/-! The pins and the attached chain, 40_serial_link.md R110, R114, R115, R121. -/

/-- The chain shift rule R114: every stage moves away from the data input and DATA enters stage 0. -/
def chainShift (s : State) : State := s.setShadow ((s.shadow <<< 1) ||| (BitVec.ofBool s.pins.data).setWidth 24)

/-- The chain latch rule R115: all 24 outputs take the stages at once. -/
def chainLatch (s : State) : State := s.setLatched s.shadow

/-- Step (2) of R110: the chain reacts to a rising edge of CLOCK or LATCH and to nothing else (R121; the active edge is
the spec's decision D5, log 15). -/
def chainReact (x : Pin) (b : Bool) (s : State) : State :=
  match x with
  | .data => s
  | .clock => if !s.pins.clock && b then chainShift s else s
  | .latch => if !s.pins.latch && b then chainLatch s else s

/-- Step (3) of R110: the pin holds the level written. -/
def storePin (x : Pin) (b : Bool) (s : State) : State :=
  match x with
  | .data => s.setPins { s.pins with data := b }
  | .clock => s.setPins { s.pins with clock := b }
  | .latch => s.setPins { s.pins with latch := b }

/-- Step (1) of R110: the write is appended to the pin trace. -/
def logPin (x : Pin) (b : Bool) (s : State) : State := s.setTrace (s.trace ++ [(x, b)])

/-- `PIN.X <- b`, the three things of R110 in order. -/
def pinWrite (x : Pin) (b : Bool) (s : State) : State := storePin x b (chainReact x b (logPin x b s))

/-! The configuration, 00_scope.md R10. -/

/-- The two documented wirings (10_state.md R31). -/
def baseLegal (base : Byte) : Bool := base == 0x02 || base == 0x10

/-- The list names each number below `n` exactly once. -/
def isOrderOf (n : Nat) (order : List Nat) : Bool :=
  order.length == n && (List.range n).all (fun a => order.contains a)

/-- Every parameter has a value R10 calls legal: the tick period is positive, any settling time will do, and the width of
a cell is 8. That the period outlasts a TICK body is a duty of the environment, since a body has no duration here (log 5). -/
def configLegal (c : Config) : Bool :=
  baseLegal c.layerMaskBase && isOrderOf 64 c.fillOrderAll && isOrderOf 16 c.fillOrderLayer &&
    decide (0 < c.tTick) && c.brightW == 8

/-- `LAYER_BIT0 = log2(LAYER_MASK_BASE)` (R31). -/
def layerBit0 (base : Byte) : Nat := Nat.log2 base.toNat

/-! Exceptions. The hardware has no trap to take and none to return from: no vector, no saved register, no cause
register (60_exceptions.md R210, R221, R222, R224). The one exception is the model's `ContractViolation`. -/

/-- `raise ContractViolation(cause)` (00_scope.md R17): no state is changed, and the run does not go on (R211). -/
def raiseContractViolation (cause : ContractCause) : Host.Outcome State Fault Refusal :=
  .fault (.contractViolation cause)

end Sys2Proof.Machine
end

