-- ==== Sys2Proof/Machine/Flags.lean ====
section
/-! DEFINITION. The block has no status flag (10_state.md R34). Its only comparison result is the "lit" predicate, used
at once as a bit of a column byte and not kept. -/

namespace Sys2Proof.Machine

/-- LIT, the comparator (42_refresh_engine.md R165): strictly greater, unsigned, the sub-step zero-extended to the
width of a cell (decision D3, log 20). -/
def lit (v : Byte) (subStep : BitVec 4) : Bool := BitVec.ult (subStep.setWidth 8) v

end Sys2Proof.Machine
end

