-- ==== Sys2Proof/Machine/Serial.lean ====
section
/-! DEFINITION. The serial link: SHIFTBIT, TXBYTE, COMMIT and EMITFRAME as shared operations, and their meanings.
`wait CFG.T_SETTLE` lengthens an operation and changes nothing, so it is omitted (40_serial_link.md R119). No
serializer operation can fail (R120). -/

namespace Sys2Proof.Machine

/-- One bit cell: DATA set, then CLOCK pulsed high and low (R111). -/
def shiftBit (b : Bool) (s : State) : State := pinWrite .clock false (pinWrite .clock true (pinWrite .data b s))

/-- Eight bit cells, bit 7 of the byte first (R112). -/
def txByte (b : Byte) (s : State) : State := [7, 6, 5, 4, 3, 2, 1, 0].foldl (fun t i => shiftBit (b.getLsbD i) t) s

/-- One latch pulse (R113). -/
def commitFrame (s : State) : State := pinWrite .latch false (pinWrite .latch true s)

/-- Three bytes in the mandated order and a commit (R116). -/
def emitFrame (sel high low : Byte) (s : State) : State := commitFrame (txByte low (txByte high (txByte sel s)))

/-- SHIFTBIT, R111. -/
def execShiftbit (b : Bool) (s : State) : Host.Outcome State Fault Refusal := .next (shiftBit b s)

/-- TXBYTE, R112. -/
def execTxbyte (b : Byte) (s : State) : Host.Outcome State Fault Refusal := .next (txByte b s)

/-- COMMIT, R113. A misplaced COMMIT is no fault (R118). -/
def execCommit (s : State) : Host.Outcome State Fault Refusal := .next (commitFrame s)

/-- EMITFRAME, R116. It does not check that the layer byte is one-cold. -/
def execEmitframe (sel high low : Byte) (s : State) : Host.Outcome State Fault Refusal :=
  .next (emitFrame sel high low s)

end Sys2Proof.Machine
end

