-- ==== Sys2Proof/Machine/Refresh.lean ====
section
/-! DEFINITION. The refresh engine: ADVANCE, LAYERSEL, COLUMNSLOW, COLUMNSHIGH, FRAME and TICK. -/

namespace Sys2Proof.Machine

/-- The flat cursor `pc = 16*layer + subStep`, 6 bits (10_state.md R25). -/
def Cursor.pc (c : Cursor) : BitVec 6 := c.layer ++ c.subStep

/-- ADVANCE, the sequencer's next-state function, in the source's steps (42_refresh_engine.md R161). -/
def advance (c : Cursor) : Cursor :=
  if c.subStep.toNat + 1 = 16 then
    (if c.layer.toNat + 1 = 4 then ⟨0, 0⟩ else ⟨BitVec.ofNat 2 (c.layer.toNat + 1), 0⟩)
  else ⟨c.layer, BitVec.ofNat 4 (c.subStep.toNat + 1)⟩

/-- LAYERSEL, the active-low polarity inverter: `0xFF & ~(base << layer)` (R162). -/
def layerSel (layer : BitVec 2) (base : Byte) : Byte := 0xFF &&& ~~~(base <<< layer.toNat)

/-- The loop of R163 and R164 over one half of a layer's row. -/
def columnByte (row : Nat → Byte) (subStep : BitVec 4) : Byte :=
  [0, 1, 2, 3, 4, 5, 6, 7].foldl (fun acc i => if lit (row i) subStep then acc ||| (1 <<< i) else acc) 0

/-- COLUMNSLOW: column c is bit c (R163). -/
def columnsLow (g : Grid) (layer : BitVec 2) (subStep : BitVec 4) : Byte :=
  columnByte (fun c => gridRead g (cellAddr layer.toNat c)) subStep

/-- COLUMNSHIGH: column c is bit c - 8 (R164). -/
def columnsHigh (g : Grid) (layer : BitVec 2) (subStep : BitVec 4) : Byte :=
  columnByte (fun c => gridRead g (cellAddr layer.toNat (c + 8))) subStep

/-- FRAME: the layer byte, the high columns, the low columns, most significant first (R166, 30_encoding.md R85). -/
def frame (g : Grid) (c : Cursor) (base : Byte) : FrameWord :=
  layerSel c.layer base ++ columnsHigh g c.layer c.subStep ++ columnsLow g c.layer c.subStep

/-- The body of a tick: the advance first, then the three bytes of the NEW cursor, then the emission (R160). -/
def tickBody (s : State) : State :=
  let c := advance s.cur
  emitFrame (layerSel c.layer s.cfg.layerMaskBase) (columnsHigh s.grid c.layer c.subStep)
    (columnsLow s.grid c.layer c.subStep) (s.setCur c)

/-- TICK, R160: it always completes. It reads `LAYER_MASK_BASE`, and a value other than the two documented ones is
refused (10_state.md R31). -/
def execTick (s : State) : Host.Outcome State Fault Refusal :=
  if baseLegal s.cfg.layerMaskBase then .next (tickBody s) else .refused .illegalConfig

end Sys2Proof.Machine
end

