-- ==== Sys2Proof/Machine/Startup.lean ====
section
/-! DEFINITION. RESET, IDLE and the reserved request. -/

namespace Sys2Proof.Machine

/-- The startup state of 70_reset_and_hazards.md R241: the grid zeroed as a whole, the cursor and the pin levels set
without an edge, the chain at `any_24()`, the records emptied. The configuration is untouched, and so is what the
environment has still to present (log 10). -/
def startup (s : State) : State where
  grid := []
  cur := ⟨0, 0⟩
  pins := ⟨false, false, false⟩
  shadow := Config.any24 s.draws s.shadow
  latched := Config.any24 (s.draws + 1) s.latched
  cfg := s.cfg
  trace := []
  results := []
  input := s.input
  pending := s.pending
  draws := s.draws + 2

/-- RESET, R241, at any event (R244). -/
def execReset (s : State) : Host.Outcome State Fault Refusal := .next (startup s)

/-- IDLE, 30_encoding.md R83: nothing. -/
def execIdle (s : State) : Host.Outcome State Fault Refusal := .next s

/-- The reserved request, R89: a model refuses it and picks no order of the tick and the write. -/
def execReservedTickAndWe (_s : State) : Host.Outcome State Fault Refusal := .refused .simultaneousTickAndWrite

end Sys2Proof.Machine
end

