-- ==== Sys2Proof/Machine/Operands.lean ====
section
/-! DEFINITION. The operand checks of the grid operations (41_voxel_grid.md R143, R146). There is one addressing mode,
the (layer, column) pair (R140), and operands are unsigned and used as they stand (30_encoding.md R88). -/

namespace Sys2Proof.Machine

/-- `OutOfRangeIndex` when the layer is above 3 or the column above 15 (R143). -/
def indexViolation (layer : Nat) (column : Option Nat) : Option ContractCause :=
  if layer > 3 ∨ column.getD 0 > 15 then some (.outOfRangeIndex layer column) else none

/-- `BrightnessTooWide` when the brightness is above 255 (R146); 17 to 255 are legal. -/
def brightnessViolation (brightness : Nat) : Option ContractCause :=
  if brightness > 255 then some (.brightnessTooWide brightness) else none

/-- Raise the violation found, or go on. -/
def unlessViolated (found : Option ContractCause) (go : Host.Outcome State Fault Refusal) :
    Host.Outcome State Fault Refusal :=
  match found with
  | some cause => raiseContractViolation cause
  | none => go

end Sys2Proof.Machine
end

