-- ==== Sys2Proof/Machine/VoxelGrid.lean ====
section
/-! DEFINITION. The voxel grid's operations SET, GET, FILL and FILLLAYER. They touch no pin, no cursor and no chain
(41_voxel_grid.md R148). -/

namespace Sys2Proof.Machine

/-- SET, R141: one cell takes the value as given, not clamped. The index check comes first (60_exceptions.md R219). -/
def execSet (layer column brightness : Nat) (s : State) : Host.Outcome State Fault Refusal :=
  unlessViolated ((indexViolation layer (some column)).or (brightnessViolation brightness))
    (.next (s.writeCell (cellAddr layer column) (BitVec.ofNat 8 brightness)))

/-- GET, R142: the cell is the operation's result and no state of the block changes. -/
def execGet (layer column : Nat) (s : State) : Host.Outcome State Fault Refusal :=
  unlessViolated (indexViolation layer (some column))
    (.next (s.setResults (s.results ++ [s.readCell (cellAddr layer column)])))

/-- The SET words a pseudo-operation expands to, one for each flat address of the order (30_encoding.md R92). -/
def expandSets (order : List Nat) (brightness : Nat) : List Request :=
  order.map (fun a => encode (.set (a / 16) (a % 16) brightness))

/-- The foreground takes on a call: its SETs come after those it still owes (43_environment.md R190, "purely
sequential"; log 10), each as an event of its own (20_memory.md R65). -/
def queueSets (order : List Nat) (brightness : Nat) (s : State) : State :=
  s.setPending (s.pending ++ expandSets order brightness)

/-- FILL, R144: the 64 SETs in the order `CFG.FILL_ORDER.all`. -/
def execFill (brightness : Nat) (s : State) : Host.Outcome State Fault Refusal :=
  unlessViolated (brightnessViolation brightness)
    (if isOrderOf 64 s.cfg.fillOrderAll then .next (queueSets s.cfg.fillOrderAll brightness s)
     else .refused .illegalConfig)

/-- FILLLAYER, R145: the 16 SETs of one layer in the order `CFG.FILL_ORDER.layer`. -/
def execFilllayer (layer brightness : Nat) (s : State) : Host.Outcome State Fault Refusal :=
  unlessViolated ((indexViolation layer none).or (brightnessViolation brightness))
    (if isOrderOf 16 s.cfg.fillOrderLayer then
      .next (queueSets (s.cfg.fillOrderLayer.map (cellAddr layer)) brightness s)
     else .refused .illegalConfig)

end Sys2Proof.Machine
end

