-- ==== Sys2Proof/Machine/Dispatch.lean ====
section
/-! DEFINITION. One arm per operation. -/

namespace Sys2Proof.Machine

def exec (i : Instr) (s : State) : Host.Outcome State Fault Refusal :=
  match i with
  | .reset => Sys2Proof.Machine.execReset s
  | .reservedTickAndWe => Sys2Proof.Machine.execReservedTickAndWe s
  | .tick => Sys2Proof.Machine.execTick s
  | .set layer column brightness => Sys2Proof.Machine.execSet layer column brightness s
  | .idle => Sys2Proof.Machine.execIdle s
  | .get layer column => Sys2Proof.Machine.execGet layer column s
  | .shiftbit b => Sys2Proof.Machine.execShiftbit b s
  | .txbyte b => Sys2Proof.Machine.execTxbyte b s
  | .commit => Sys2Proof.Machine.execCommit s
  | .emitframe sel high low => Sys2Proof.Machine.execEmitframe sel high low s
  | .fill brightness => Sys2Proof.Machine.execFill brightness s
  | .filllayer layer brightness => Sys2Proof.Machine.execFilllayer layer brightness s

end Sys2Proof.Machine
end

