-- ==== Sys2Proof/Machine/Fetch.lean ====
section
/-! DEFINITION. The request of the next event. The block fetches no instructions (20_memory.md R50, R70): the
environment presents one request per event (30_encoding.md R82), in an order it is free to choose (R66; log 9). -/

namespace Sys2Proof.Machine

/-- The event in which nothing is asked of the block (30_encoding.md R83). -/
def idleRequest : Request := encode .idle

/-- The foreground presents its next owed SET, or nothing when it owes none (20_memory.md R65; log 10). -/
def foregroundTurn (s : State) : Request × State :=
  match s.pending with
  | [] => (idleRequest, s)
  | r :: rest => (r, s.setPending rest)

/-- The request of the next event, and the state that no longer holds it. A request in program order waits for the
SETs owed, a preempting one does not, and when the environment has chosen no further turn the foreground goes on with
what it owes. -/
def nextRequest (s : State) : Request × State :=
  match s.input with
  | [] => foregroundTurn s
  | .preempt r :: rest => (r, s.setInput rest)
  | .foreground :: rest => foregroundTurn (s.setInput rest)
  | .request r :: rest =>
    match s.pending with
    | [] => (r, s.setInput rest)
    | owed :: later => (owed, s.setPending later)

end Sys2Proof.Machine
end

