-- ==== Sys2Proof/Machine/Step.lean ====
section
/-! DEFINITION. One step is one event (20_memory.md R63): the next request is taken, decoded and performed. -/

namespace Sys2Proof.Machine

/-- One event. A configuration that 00_scope.md R10 does not call legal is refused before anything is performed (10_state.md R31,
60_exceptions.md R212; log 3). -/
def step (s : State) : Host.Outcome State Fault Refusal :=
  if configLegal s.cfg then
    match decode (nextRequest s).1 with
    | .ok i => exec i (nextRequest s).2
    | .error why => .refused (.undecoded why)
  else .refused .illegalConfig

/-- The word of a table row presented as the very next request (log 9, log 11). A word that no format of that many
bytes can carry stands for no request, and nothing is presented. -/
def State.withFetchWord (s : State) (nbits w : Nat) : State :=
  match tableRequest nbits w with
  | some r => s.setInput (.preempt r :: s.input)
  | none => s

end Sys2Proof.Machine
end

