-- ==== Sys2Proof/Machine/Observe.lean ====
section
/-! DEFINITION. What an observer makes of the pins and the outputs: the lit function, the wire protocol, the emitted
bits, and a chain that reacts to the other edge. No operation uses this file. -/

namespace Sys2Proof.Machine

/-! The lit function, 10_state.md R37 (decision D20, log 18). -/

/-- Layer `L` conducts: its line is 0, active-low. -/
def layerOn (base : Byte) (f : FrameWord) (layer : Nat) : Bool := !f.getLsbD (16 + layerBit0 base + layer)

/-- Column `c` conducts: its line is 1. -/
def columnOn (f : FrameWord) (column : Nat) : Bool := f.getLsbD column

/-- A voxel lights when both conduct. -/
def voxelLit (base : Byte) (f : FrameWord) (layer column : Nat) : Bool := layerOn base f layer && columnOn f column

/-- `c = 4*x + y` (R37). -/
def columnOfXY (x y : Nat) : Nat := 4 * x + y

/-- `L = z` (R37, decision D20). -/
def layerOfZ (z : Nat) : Nat := z

/-! The wire protocol, 30_encoding.md R93. -/

/-- A bit cell: three pin writes. -/
def bitCell (b : Bool) : List PinWrite := [(.data, b), (.clock, true), (.clock, false)]

/-- A latch pulse: two pin writes. -/
def latchPulse : List PinWrite := [(.latch, true), (.latch, false)]

/-- The cells of a byte, bit 7 first. -/
def byteCells (b : Byte) : List PinWrite := [7, 6, 5, 4, 3, 2, 1, 0].flatMap (fun i => bitCell (b.getLsbD i))

/-- The 74 pin writes of a frame: the cells of bits 23 down to 0, then the pulse. -/
def frameTrace (f : FrameWord) : List PinWrite :=
  (List.range 24).flatMap (fun j => bitCell (f.getLsbD (23 - j))) ++ latchPulse

/-- Pin writes performed one after another. -/
def applyPinWrites (ws : List PinWrite) (s : State) : State := ws.foldl (fun t w => pinWrite w.1 w.2 t) s

/-- The emitted bit sequence of a pin trace that begins at given pin levels: DATA at each rising CLOCK edge
(40_serial_link.md R125). -/
def emittedBits : Pins → List PinWrite → List Bool
  | _, [] => []
  | p, (.data, b) :: rest => emittedBits { p with data := b } rest
  | p, (.clock, b) :: rest =>
    (if !p.clock && b then [p.data] else []) ++ emittedBits { p with clock := b } rest
  | p, (.latch, b) :: rest => emittedBits { p with latch := b } rest

/-- The level a pin holds. -/
def Pins.level (p : Pins) : Pin → Bool
  | .data => p.data
  | .clock => p.clock
  | .latch => p.latch

/-- How many writes of a trace change a level, which is all an observer of levels can see (R110). -/
def levelChanges : Pins → List PinWrite → Nat
  | _, [] => 0
  | p, (x, b) :: rest =>
    (if p.level x == b then 0 else 1) +
      levelChanges (match x with
        | .data => { p with data := b }
        | .clock => { p with clock := b }
        | .latch => { p with latch := b }) rest

/-- How many writes of a trace go to a pin (R124). -/
def writesTo (x : Pin) (ws : List PinWrite) : Nat := ws.countP (fun w => w.1 == x)

/-! The chain that shifts and latches on the falling edges instead (R122, decision D5). -/

/-- A pin write seen by a chain of the other edge. -/
def pinWriteFalling (x : Pin) (b : Bool) (s : State) : State :=
  storePin x b (match x with
    | .data => logPin x b s
    | .clock => if s.pins.clock && !b then chainShift (logPin x b s) else logPin x b s
    | .latch => if s.pins.latch && !b then chainLatch (logPin x b s) else logPin x b s)

/-- Pin writes performed one after another on a chain of the other edge. -/
def applyPinWritesFalling (ws : List PinWrite) (s : State) : State :=
  ws.foldl (fun t w => pinWriteFalling w.1 w.2 t) s

end Sys2Proof.Machine
end

