-- ==== Sys2Proof/Safety.lean ====
section
/-! DEFINITION. Runs, and what is true of every state of a run: the terms the statements use. A safe run is one that
meets no fault and no refusal; `runInstrs` and `runSteps` answer a state exactly for those. -/

namespace Sys2Proof.Machine

/-- The next state, where there is one. -/
def nextState? : Host.Outcome State Fault Refusal → Option State
  | .next s => some s
  | .fault _ => none
  | .refused _ => none

/-- Operations performed one after another, each an event of its own; `none` when one of them stops. -/
def runInstrs : List Instr → State → Option State
  | [], s => some s
  | i :: rest, s =>
    match exec i s with
    | .next t => runInstrs rest t
    | .fault _ => none
    | .refused _ => none

/-- `n` consecutive TICKs (30_encoding.md R92, `TICK * n`). -/
def runTicks (n : Nat) (s : State) : Option State := runInstrs (List.replicate n .tick) s

/-- `n` steps of the machine; `none` when one of them stops. -/
def runSteps : Nat → State → Option State
  | 0, s => some s
  | n + 1, s =>
    match step s with
    | .next t => runSteps n t
    | .fault _ => none
    | .refused _ => none

/-- An outcome with its next state changed, where there is one. -/
def mapNext (f : State → State) : Host.Outcome State Fault Refusal → Host.Outcome State Fault Refusal
  | .next s => .next (f s)
  | .fault r => .fault r
  | .refused r => .refused r

/-- The same state with other durations in its configuration. -/
def State.setDurations (s : State) (tTick tSettle : Nat) : State :=
  { s with cfg := { s.cfg with tTick := tTick, tSettle := tSettle } }

/-- A turn in which the foreground goes on with what it owes, or a tick or an idle event falls in between
(20_memory.md R65: what may fall between two SETs of one FILL). -/
def isQuietTurn : Turn → Bool
  | .foreground => true
  | .request _ => false
  | .preempt r =>
    match decode r with
    | .ok .tick => true
    | .ok .idle => true
    | _ => false

/-- A request that is a SET, which is all FILL and FILLLAYER expand to (30_encoding.md R92). -/
def isSetRequest (r : Request) : Bool :=
  match decode r with
  | .ok (.set _ _ _) => true
  | _ => false

/-- What every whole operation keeps (10_state.md R38 (a) and (b), with the model's own fields): the grid in its
canonical form, CLOCK and LATCH low, a legal configuration, and only SETs owed. -/
abbrev Inv (s : State) : Prop :=
  gridWf s.grid = true ∧ s.pins.clock = false ∧ s.pins.latch = false ∧ configLegal s.cfg = true ∧
    s.pending.all isSetRequest = true

/-- The outputs show a frame of the cursor (10_state.md R38 (c) and (d)): the stages equal the outputs, DATA is bit 0,
and the layer byte is the one of the cursor's layer. -/
abbrev FrameShown (s : State) : Prop :=
  s.shadow = s.latched ∧ s.pins.data = s.latched.getLsbD 0 ∧
    s.latched.extractLsb' 16 8 = layerSel s.cur.layer s.cfg.layerMaskBase

end Sys2Proof.Machine
end

