-- ==== Sys2Proof/Certificates/Slice0/Obligations.lean ====
section
/-! DEFINITION. The statements for the provers. Each docstring names what of the spec it formalises; where a clause
rests on a choice of the spec or of the model, it says so. A frame is written as the whole next state, or as the next
state with the changed field put back. -/

open Sys2Proof Sys2Proof.Machine

/-! Encoding -/

/-- Decode and encode agree for every operation with every operand its fields admit. The request layouts are the
spec's own choice (decision D11, log 17). -/
def Obligations.DecodeOfEncodeIsTheOperation : Prop :=
  ∀ i : Instr, i.wellFormed = true → decode (encode i) = .ok i

/-- 30_encoding.md section 2: which of the five REQ operations each 17-bit word is. The layout is the spec's own choice
(decisions D11 and D12, log 17). -/
def Obligations.EveryReqWordDecodes : Prop :=
  (∀ w, w < 0x20000 → 0x10000 ≤ w → decode ⟨.req, w⟩ = .ok .reset) ∧
  (∀ w, w < 0x10000 → 0x0C000 ≤ w → decode ⟨.req, w⟩ = .ok .reservedTickAndWe) ∧
  (∀ w, w < 0x0C000 → 0x08000 ≤ w → decode ⟨.req, w⟩ = .ok .tick) ∧
  (∀ l c v, l < 4 → c < 16 → v < 256 →
    decode ⟨.req, 0x04000 + 0x1000 * l + 0x100 * c + v⟩ = .ok (.set l c v)) ∧
  (∀ w, w < 0x04000 → decode ⟨.req, w⟩ = .ok .idle)

/-- 30_encoding.md section 2: format SER, with the ignored bits of COMMIT. Layout: decision D11, log 17. -/
def Obligations.EverySerWordDecodes : Prop :=
  (∀ b : Byte, decode ⟨.ser, b.toNat⟩ = .ok (.txbyte b)) ∧
  (∀ w, w < 0x200 → 0x100 ≤ w → decode ⟨.ser, w⟩ = .ok .commit)

/-- Decoding is total: a word the interface can carry decodes to a well-formed operation (30_encoding.md sections 2 and
3), and any other word is rejected by name (the model's choice, log 12). -/
def Obligations.DecodingIsTotal : Prop :=
  ∀ r : Request,
    (r.wellFormed = true → ∃ i, decode r = .ok i ∧ i.wellFormed = true) ∧
    (r.wellFormed = false → decode r = .error (.wordTooWide r.format))

/-- Words written out from the patterns of 30_encoding.md and spec/opcode_table.json (layout: decision D11, log 17). -/
def Obligations.WrittenOutWordsDecode : Prop :=
  decode ⟨.req, 0b00110010100010000⟩ = .ok (.set 2 5 16) ∧
  decode ⟨.req, 0b01000000000000000⟩ = .ok .tick ∧
  decode ⟨.req, 0b10000000000000000⟩ = .ok .reset ∧
  decode ⟨.req, 0b01110010100010000⟩ = .ok .reservedTickAndWe ∧
  decode ⟨.portR, 0b100101⟩ = .ok (.get 2 5) ∧
  decode ⟨.ser, 0b010110000⟩ = .ok (.txbyte 0xB0) ∧
  decode ⟨.frame, 0b111101110000000000100000⟩ = .ok (.emitframe 0xF7 0x00 0x20)

/-! Serial link -/

/-- 40_serial_link.md sections 1 and 2: what a pin write does to the trace, the pins and the chain, and that it does
nothing else. The active edges are the spec's decision D5 (log 15). -/
def Obligations.PinWriteEffect : Prop :=
  ∀ (x : Pin) (b : Bool) (s : State),
    (pinWrite x b s).trace = s.trace ++ [(x, b)] ∧
    (pinWrite x b s).pins.level x = b ∧
    (∀ y, y ≠ x → (pinWrite x b s).pins.level y = s.pins.level y) ∧
    (pinWrite x b s).shadow =
      (if x = .clock ∧ s.pins.clock = false ∧ b = true
       then BitVec.ofNat 24 (2 * s.shadow.toNat + s.pins.data.toNat) else s.shadow) ∧
    (pinWrite x b s).latched =
      (if x = .latch ∧ s.pins.latch = false ∧ b = true then s.shadow else s.latched) ∧
    { pinWrite x b s with trace := s.trace, pins := s.pins, shadow := s.shadow, latched := s.latched } = s

/-- 40_serial_link.md section 3, the effect of SHIFTBIT with its frame: when CLOCK is low on entry one shift (R111). That
there is no shift when CLOCK is high on entry rests on the rising edge, the spec's decision D5 (log 15): no state of a run
enters so. -/
def Obligations.ShiftbitEffect : Prop :=
  ∀ (b : Bool) (s : State),
    exec (.shiftbit b) s = .next { s with
      shadow := if s.pins.clock then s.shadow else BitVec.ofNat 24 (2 * s.shadow.toNat + b.toNat)
      pins := ⟨b, false, s.pins.latch⟩
      trace := s.trace ++ [(.data, b), (.clock, true), (.clock, false)] }

/-- R112, the effect of TXBYTE when CLOCK is low, with its frame, its 24 pin writes and the order of its bits. -/
def Obligations.TxbyteEffect : Prop :=
  ∀ (b : Byte) (s : State), s.pins.clock = false →
    exec (.txbyte b) s = .next { s with
      shadow := s.shadow.extractLsb' 0 16 ++ b
      pins := ⟨b.getLsbD 0, false, s.pins.latch⟩
      trace := s.trace ++ byteCells b } ∧
    (byteCells b).length = 24 ∧
    emittedBits s.pins (byteCells b) = [b.getLsbD 7, b.getLsbD 6, b.getLsbD 5, b.getLsbD 4, b.getLsbD 3,
      b.getLsbD 2, b.getLsbD 1, b.getLsbD 0]

/-- 40_serial_link.md section 3, the effect of COMMIT with its frame: when LATCH is low on entry the outputs take the
stages (R113). That no copy happens when LATCH is high on entry rests on the rising edge, the spec's decision D5 (log 15):
no state of a run enters so. -/
def Obligations.CommitEffect : Prop :=
  ∀ s : State,
    exec .commit s = .next { s with
      latched := if s.pins.latch then s.latched else s.shadow
      pins := ⟨s.pins.data, s.pins.clock, false⟩
      trace := s.trace ++ [(.latch, true), (.latch, false)] }

/-- 40_serial_link.md section 3, COMMIT is idempotent: the second of two COMMITs leaves the outputs as they are. -/
def Obligations.CommitTwiceIsCommitOnce : Prop :=
  ∀ s : State, s.pins.latch = false →
    ∃ t u, runInstrs [.commit] s = some t ∧ runInstrs [.commit, .commit] s = some u ∧
      u.latched = t.latched ∧ { u with trace := t.trace } = t

/-- R116, the effect of EMITFRAME when CLOCK and LATCH are low, with its frame. -/
def Obligations.EmitframeEffect : Prop :=
  ∀ (sel high low : Byte) (s : State), s.pins.clock = false → s.pins.latch = false →
    exec (.emitframe sel high low) s = .next { s with
      shadow := sel ++ high ++ low
      latched := sel ++ high ++ low
      pins := ⟨low.getLsbD 0, false, false⟩
      trace := s.trace ++ frameTrace (sel ++ high ++ low) }

/-- 40_serial_link.md section 3 and 42_refresh_engine.md section 3: a frame is its 74 pin writes one after another, and
the outputs keep their old word during the first 72 and take the new one at the 73rd. That the outputs change at the
73rd write and not at the 74th rests on the spec's decision D5 (log 15). -/
def Obligations.OutputsChangeOnceInAFrame : Prop :=
  ∀ (sel high low : Byte) (s : State), s.pins.clock = false → s.pins.latch = false →
    emitFrame sel high low s = applyPinWrites (frameTrace (sel ++ high ++ low)) s ∧
    (frameTrace (sel ++ high ++ low)).length = 74 ∧
    ∀ k, k ≤ 74 → (applyPinWrites ((frameTrace (sel ++ high ++ low)).take k) s).latched =
      if k ≤ 72 then s.latched else sel ++ high ++ low

/-- 40_serial_link.md section 4: three TXBYTEs place the frame, whatever the stages held. -/
def Obligations.ThreeBytesPlaceTheFrame : Prop :=
  ∀ (b1 b2 b3 : Byte) (s : State), s.pins.clock = false →
    ∃ t, runInstrs [.txbyte b1, .txbyte b2, .txbyte b3] s = some t ∧ t.shadow = b1 ++ b2 ++ b3 ∧
      t.latched = s.latched

/-- 40_serial_link.md section 4: a COMMIT after any number of bit cells is no fault and latches the last 24 bits sent,
with older stages where fewer were sent. -/
def Obligations.MisplacedCommitLatchesTheLastBits : Prop :=
  ∀ (bits : List Bool) (s : State), s.pins.clock = false → s.pins.latch = false →
    ∃ t, runInstrs (bits.map .shiftbit ++ [.commit]) s = some t ∧
      (∀ j, j < 24 → t.latched.getLsbD j =
        if j < bits.length then bits.reverse.getD j false else s.shadow.getLsbD (j - bits.length)) ∧
      t.shadow = t.latched

/-- 40_serial_link.md section 4: a chain that shifts and latches on the falling edges holds the same after every whole
bit cell, latch pulse and frame, so the choice of edge (decision D5, log 15) is not seen. -/
def Obligations.ActiveEdgeIsNotSeen : Prop :=
  ∀ s : State,
    (s.pins.clock = false → ∀ b, applyPinWritesFalling (bitCell b) s = applyPinWrites (bitCell b) s) ∧
    (s.pins.latch = false → applyPinWritesFalling latchPulse s = applyPinWrites latchPulse s) ∧
    (s.pins.clock = false → s.pins.latch = false → ∀ f,
      applyPinWritesFalling (frameTrace f) s = applyPinWrites (frameTrace f) s)

/-- 40_serial_link.md section 4 and 70_reset_and_hazards.md section 4: the number of pin writes of each operation is
fixed, whatever the state and the data. -/
def Obligations.PinWriteCountsAreFixed : Prop :=
  (∀ b s, ∃ t w, exec (.shiftbit b) s = .next t ∧ t.trace = s.trace ++ w ∧
    writesTo .data w = 1 ∧ writesTo .clock w = 2 ∧ writesTo .latch w = 0) ∧
  (∀ b s, ∃ t w, exec (.txbyte b) s = .next t ∧ t.trace = s.trace ++ w ∧
    writesTo .data w = 8 ∧ writesTo .clock w = 16 ∧ writesTo .latch w = 0) ∧
  (∀ s, ∃ t w, exec .commit s = .next t ∧ t.trace = s.trace ++ w ∧
    writesTo .data w = 0 ∧ writesTo .clock w = 0 ∧ writesTo .latch w = 2) ∧
  (∀ sel high low s, ∃ t w, exec (.emitframe sel high low) s = .next t ∧ t.trace = s.trace ++ w ∧
    writesTo .data w = 24 ∧ writesTo .clock w = 48 ∧ writesTo .latch w = 2) ∧
  (∀ s, baseLegal s.cfg.layerMaskBase = true → ∃ t w, exec .tick s = .next t ∧ t.trace = s.trace ++ w ∧
    writesTo .data w = 24 ∧ writesTo .clock w = 48 ∧ writesTo .latch w = 2)

/-- 90_conflicts.md C8: of a frame's 74 pin writes between 50 and 74 change a level. -/
def Obligations.FrameChangesFiftyToSeventyFourLevels : Prop :=
  ∀ (f : FrameWord) (p : Pins), p.clock = false → p.latch = false →
    50 ≤ levelChanges p (frameTrace f) ∧ levelChanges p (frameTrace f) ≤ 74

/-! Voxel grid -/

/-- R141, SET on every cell and every 8-bit value: the cell takes the value as given, the other cells and everything
else are unchanged. The premise that the grid is canonical is an invariant stated below. -/
def Obligations.SetEffect : Prop :=
  ∀ (l c v : Nat) (s : State), l < 4 → c < 16 → v < 256 → gridWf s.grid = true →
    ∃ t, exec (.set l c v) s = .next t ∧
      t.readCell (16 * l + c) = BitVec.ofNat 8 v ∧
      (∀ a, a ≠ 16 * l + c → t.readCell a = s.readCell a) ∧
      { t with grid := s.grid } = s

/-- 41_voxel_grid.md section 2, GET: the cell is the result, every byte of the grid and everything else is unchanged.
The list of results is the model's record (log 8). -/
def Obligations.GetEffect : Prop :=
  ∀ (l c : Nat) (s : State), l < 4 → c < 16 →
    exec (.get l c) s = .next { s with results := s.results ++ [s.readCell (16 * l + c)] }

/-- 41_voxel_grid.md section 2: a GET after a SET returns the value set when it names the same cell, and what the cell
held before when it names another. -/
def Obligations.GetAfterSet : Prop :=
  ∀ (l c v l' c' : Nat) (s : State), l < 4 → c < 16 → v < 256 → l' < 4 → c' < 16 → gridWf s.grid = true →
    ∃ t, runInstrs [.set l c v, .get l' c'] s = some t ∧
      t.results = s.results ++
        [if l' = l ∧ c' = c then BitVec.ofNat 8 v else s.readCell (16 * l' + c')]

/-- 41_voxel_grid.md section 3 and 60_exceptions.md sections 1 and 4: an index outside the grid raises
`OutOfRangeIndex`, before the brightness is looked at. Rejecting is the spec's decision D4 (log 13). -/
def Obligations.OutOfRangeIndexIsRaised : Prop :=
  ∀ (l c v : Nat) (s : State),
    (3 < l ∨ 15 < c →
      exec (.set l c v) s = .fault (.contractViolation (.outOfRangeIndex l (some c))) ∧
      exec (.get l c) s = .fault (.contractViolation (.outOfRangeIndex l (some c)))) ∧
    (3 < l → exec (.filllayer l v) s = .fault (.contractViolation (.outOfRangeIndex l none)))

/-- 41_voxel_grid.md section 3 and 60_exceptions.md section 1: a brightness above 255 raises `BrightnessTooWide`, which
is the spec's decision D3 (log 13). -/
def Obligations.BrightnessTooWideIsRaised : Prop :=
  ∀ (l c v : Nat) (s : State), 255 < v →
    (l < 4 → c < 16 → exec (.set l c v) s = .fault (.contractViolation (.brightnessTooWide v))) ∧
    (l < 4 → exec (.filllayer l v) s = .fault (.contractViolation (.brightnessTooWide v))) ∧
    exec (.fill v) s = .fault (.contractViolation (.brightnessTooWide v))

/-- 41_voxel_grid.md section 2, FILL: it completes, owes 64 SETs after those already owed, one for each cell and in the
order `CFG.FILL_ORDER` names (R144, R92), and changes nothing else. That the SETs are owed in `pending` is the model's
form of "its own event" (log 10), and the order as a list of flat addresses is that of the configuration (log 4). -/
def Obligations.FillOwesOneSetPerCell : Prop :=
  ∀ (v : Nat) (s : State), v < 256 → isOrderOf 64 s.cfg.fillOrderAll = true →
    ∃ sets : List Request,
      exec (.fill v) s = .next { s with pending := s.pending ++ sets } ∧
      sets.length = 64 ∧ (∀ l c, l < 4 → c < 16 → sets.count (encode (.set l c v)) = 1) ∧
      ∀ (k l c : Nat), l < 4 → c < 16 → s.cfg.fillOrderAll[k]? = some (16 * l + c) →
        sets[k]? = some (encode (.set l c v))

/-- 41_voxel_grid.md section 2, FILLLAYER: it completes, owes 16 SETs after those already owed, one for each column of
the layer and in the order `CFG.FILL_ORDER` names (R145, R92), and changes nothing else. The owing is the model's form
(log 10), and the order as a list of columns is that of the configuration (log 4). -/
def Obligations.FilllayerOwesOneSetPerColumn : Prop :=
  ∀ (l v : Nat) (s : State), l < 4 → v < 256 → isOrderOf 16 s.cfg.fillOrderLayer = true →
    ∃ sets : List Request,
      exec (.filllayer l v) s = .next { s with pending := s.pending ++ sets } ∧
      sets.length = 16 ∧ (∀ c, c < 16 → sets.count (encode (.set l c v)) = 1) ∧
      ∀ (k c : Nat), c < 16 → s.cfg.fillOrderLayer[k]? = some c → sets[k]? = some (encode (.set l c v))

/-- 41_voxel_grid.md section 2 (R144) with 20_memory.md section 6 (R65): when the 64 SETs of a FILL have been performed
every cell holds the value, for every fill order and whatever ticks and idle events fall between the SETs. The turns and
the owed SETs are the model's form (log 9, log 10). -/
def Obligations.FillFillsUnderEveryMerge : Prop :=
  ∀ (v : Nat) (turns : List Turn) (s : State), v < 256 → gridWf s.grid = true → configLegal s.cfg = true →
    s.pending = [] → s.input = .request ⟨.fillArg, v⟩ :: turns →
    turns.all isQuietTurn = true → 64 ≤ turns.count .foreground →
    ∃ t, runSteps (turns.length + 1) s = some t ∧ t.pending = [] ∧ t.input = [] ∧
      ∀ a, a < 64 → t.readCell a = BitVec.ofNat 8 v

/-- 41_voxel_grid.md section 2 (R145) with 20_memory.md section 6 (R65): when the 16 SETs of a FILLLAYER have been
performed every cell of the layer holds the value and the other 48 are unchanged, for every column order and whatever
ticks and idle events fall between the SETs. The turns and the owed SETs are the model's form (log 9, log 10). -/
def Obligations.FilllayerFillsUnderEveryMerge : Prop :=
  ∀ (l v : Nat) (turns : List Turn) (s : State), l < 4 → v < 256 → gridWf s.grid = true →
    configLegal s.cfg = true → s.pending = [] → s.input = .request ⟨.fillLayerArg, 0x100 * l + v⟩ :: turns →
    turns.all isQuietTurn = true → 16 ≤ turns.count .foreground →
    ∃ t, runSteps (turns.length + 1) s = some t ∧ t.pending = [] ∧ t.input = [] ∧
      ∀ a, a < 64 → t.readCell a = if a / 16 = l then BitVec.ofNat 8 v else s.readCell a

/-- 41_voxel_grid.md section 2, FILL and FILLLAYER in program order: when nothing preempts them, their SETs come before
whatever is asked next. The order of turns is the model's form (log 9, log 10). -/
def Obligations.FillsFinishBeforeTheNextRequest : Prop :=
  ∀ (l v : Nat) (rest : List Turn) (s : State), l < 4 → v < 256 → gridWf s.grid = true →
    configLegal s.cfg = true → s.pending = [] → (rest = [] ∨ ∃ r later, rest = .request r :: later) →
    (s.input = .request ⟨.fillArg, v⟩ :: rest →
      ∃ t, runSteps 65 s = some t ∧ t.pending = [] ∧ t.input = rest ∧
        ∀ a, a < 64 → t.readCell a = BitVec.ofNat 8 v) ∧
    (s.input = .request ⟨.fillLayerArg, 0x100 * l + v⟩ :: rest →
      ∃ t, runSteps 17 s = some t ∧ t.pending = [] ∧ t.input = rest ∧
        ∀ a, a < 64 → t.readCell a = if a / 16 = l then BitVec.ofNat 8 v else s.readCell a)

/-- 41_voxel_grid.md section 4: after any sequence of SETs each cell holds the value of the last SET that named it, or
what it held before. -/
def Obligations.LastWriteWins : Prop :=
  ∀ (writes : List (Nat × Nat × Nat)) (s : State), gridWf s.grid = true →
    (∀ w ∈ writes, w.1 < 4 ∧ w.2.1 < 16 ∧ w.2.2 < 256) →
    ∃ t, runInstrs (writes.map (fun w => .set w.1 w.2.1 w.2.2)) s = some t ∧
      ∀ a, t.readCell a =
        match writes.reverse.find? (fun w => 16 * w.1 + w.2.1 == a) with
        | some w => BitVec.ofNat 8 w.2.2
        | none => s.readCell a

/-- 41_voxel_grid.md section 4: the grid operations leave the cursor, the pins and the chain alone and write no pin;
TICK and the serializer's operations leave the grid alone. -/
def Obligations.GridAndLinkAreSeparate : Prop :=
  (∀ (i : Instr) (s t : State),
    (∃ l c v, i = .set l c v) ∨ (∃ l c, i = .get l c) ∨ (∃ v, i = .fill v) ∨ (∃ l v, i = .filllayer l v) →
    exec i s = .next t →
      t.cur = s.cur ∧ t.pins = s.pins ∧ t.shadow = s.shadow ∧ t.latched = s.latched ∧ t.trace = s.trace) ∧
  (∀ (i : Instr) (s t : State),
    i = .tick ∨ i = .commit ∨ (∃ b, i = .shiftbit b) ∨ (∃ b, i = .txbyte b) ∨
      (∃ sel high low, i = .emitframe sel high low) →
    exec i s = .next t → t.grid = s.grid ∧ t.pending = s.pending ∧ t.results = s.results)

/-- Two canonical grids that read alike are equal, so equal grids are equal data. -/
def Obligations.GridsThatReadAlikeAreEqual : Prop :=
  ∀ g h : Grid, gridWf g = true → gridWf h = true → (∀ a, gridRead g a = gridRead h a) → g = h

/-! Refresh engine -/

/-- R161: the advance is a 6-bit increment of the flat cursor, with the source's own cases. -/
def Obligations.AdvanceIncrementsTheFlatCursor : Prop :=
  ∀ c : Cursor, (advance c).pc = c.pc + 1 ∧ c.pc.toNat = 16 * c.layer.toNat + c.subStep.toNat ∧
    (c.subStep ≠ 15 → advance c = ⟨c.layer, c.subStep + 1⟩) ∧
    (c.subStep = 15 → advance c = ⟨c.layer + 1, 0⟩)

/-- R162: the layer byte is 1 in every bit but the one of the layer, and its eight values. -/
def Obligations.LayerSelIsOneCold : Prop :=
  (∀ (layer : BitVec 2) (base : Byte), baseLegal base = true →
    ∀ i, i < 8 → (layerSel layer base).getLsbD i = decide (i ≠ layerBit0 base + layer.toNat)) ∧
  [0, 1, 2, 3].map (fun l => layerSel l 0x02) = [0xFD, 0xFB, 0xF7, 0xEF] ∧
  [0, 1, 2, 3].map (fun l => layerSel l 0x10) = [0xEF, 0xDF, 0xBF, 0x7F]

/-- 42_refresh_engine.md section 2, LIT: strictly greater as numbers, so every value from 16 up is lit at every
sub-step. That the comparison is unsigned and 8 bits wide is the spec's decision D3 (log 20). -/
def Obligations.LitIsStrictlyGreater : Prop :=
  ∀ (v : Byte) (subStep : BitVec 4),
    lit v subStep = decide (subStep.toNat < v.toNat) ∧ (16 ≤ v.toNat → lit v subStep = true)

/-- R163 and R164: the column bytes, column by column, bit by bit. -/
def Obligations.ColumnBytesBitByBit : Prop :=
  ∀ (g : Grid) (layer : BitVec 2) (subStep : BitVec 4) (i : Nat), i < 8 →
    (columnsLow g layer subStep).getLsbD i =
      decide (subStep.toNat < (gridRead g (16 * layer.toNat + i)).toNat) ∧
    (columnsHigh g layer subStep).getLsbD i =
      decide (subStep.toNat < (gridRead g (16 * layer.toNat + (8 + i))).toNat)

/-- 42_refresh_engine.md section 2, FRAME: bit c is the lit bit of column c, the top byte is the layer byte. -/
def Obligations.FrameBitByBit : Prop :=
  ∀ (g : Grid) (c : Cursor) (base : Byte),
    (∀ i, i < 16 → (frame g c base).getLsbD i =
      decide (c.subStep.toNat < (gridRead g (16 * c.layer.toNat + i)).toNat)) ∧
    (frame g c base).extractLsb' 16 8 = layerSel c.layer base

/-- R160, the effect of TICK, with its frame: the cursor advances first, the frame is that of the new cursor, and it is
emitted whole. -/
def Obligations.TickEffect : Prop :=
  ∀ s : State, s.pins.clock = false → s.pins.latch = false → baseLegal s.cfg.layerMaskBase = true →
    exec .tick s = .next { s with
      cur := advance s.cur
      shadow := frame s.grid (advance s.cur) s.cfg.layerMaskBase
      latched := frame s.grid (advance s.cur) s.cfg.layerMaskBase
      pins := ⟨(columnsLow s.grid (advance s.cur).layer (advance s.cur).subStep).getLsbD 0, false, false⟩
      trace := s.trace ++ frameTrace (frame s.grid (advance s.cur) s.cfg.layerMaskBase) }

/-- 42_refresh_engine.md sections 1 and 2: what a tick shows depends on the cursor, the wiring and the sixteen cells of
the advanced cursor's layer, and on nothing else. -/
def Obligations.TickDependsOnOneLayerOnly : Prop :=
  ∀ s t : State, s.pins.clock = false → s.pins.latch = false → t.pins.clock = false → t.pins.latch = false →
    baseLegal s.cfg.layerMaskBase = true → t.cfg.layerMaskBase = s.cfg.layerMaskBase → t.cur = s.cur →
    (∀ c, c < 16 → t.readCell (16 * (advance s.cur).layer.toNat + c) =
      s.readCell (16 * (advance s.cur).layer.toNat + c)) →
    ∃ s' t', exec .tick s = .next s' ∧ exec .tick t = .next t' ∧
      t'.cur = s'.cur ∧ t'.pins = s'.pins ∧ t'.shadow = s'.shadow ∧ t'.latched = s'.latched

/-- 42_refresh_engine.md section 3: n ticks take the flat cursor n places on, modulo 64, and after at least one the
outputs show the frame of the cursor. -/
def Obligations.TicksFollowTheCursor : Prop :=
  ∀ (n : Nat) (s : State), s.pins.clock = false → s.pins.latch = false → baseLegal s.cfg.layerMaskBase = true →
    ∃ t, runTicks n s = some t ∧ t.cur.pc.toNat = (s.cur.pc.toNat + n) % 64 ∧ t.grid = s.grid ∧
      (0 < n → t.latched = frame s.grid t.cur s.cfg.layerMaskBase ∧ t.shadow = t.latched)

/-- 42_refresh_engine.md section 3: from any cursor, 64 consecutive ticks use each of the 64 cursors exactly once. -/
def Obligations.SixtyFourTicksUseEachCursorOnce : Prop :=
  ∀ (s : State) (c : Cursor), baseLegal s.cfg.layerMaskBase = true →
    ∃ k, (k < 64 ∧ ∃ t, runTicks (k + 1) s = some t ∧ t.cur = c) ∧
      ∀ j, j < 64 → (∃ t, runTicks (j + 1) s = some t ∧ t.cur = c) → j = k

/-- 42_refresh_engine.md section 3: after a tick exactly the cursor's layer is on, and a voxel is lit exactly when it is
of that layer and brighter than the sub-step. The lit function is the spec's decision D20 (log 18). -/
def Obligations.ExactlyOneLayerIsActive : Prop :=
  ∀ s : State, s.pins.clock = false → s.pins.latch = false → baseLegal s.cfg.layerMaskBase = true →
    ∃ t, exec .tick s = .next t ∧ ∀ l, l < 4 →
      layerOn s.cfg.layerMaskBase t.latched l = decide (l = t.cur.layer.toNat) ∧
      ∀ c, c < 16 → voxelLit s.cfg.layerMaskBase t.latched l c =
        decide (l = t.cur.layer.toNat ∧ t.cur.subStep.toNat < (s.readCell (16 * l + c)).toNat)

/-- 42_refresh_engine.md section 3: over any 64 consecutive ticks a voxel is lit in exactly min(v, 16) of them. The lit
function is the spec's decision D20 (log 18). -/
def Obligations.BrightnessIsTheCountOfLitTicks : Prop :=
  ∀ (s : State) (l c : Nat), s.pins.clock = false → s.pins.latch = false →
    baseLegal s.cfg.layerMaskBase = true → l < 4 → c < 16 →
    (List.range 64).countP (fun k => match runTicks (k + 1) s with
      | some t => voxelLit s.cfg.layerMaskBase t.latched l c
      | none => false) = min (s.readCell (16 * l + c)).toNat 16

/-- 20_memory.md section 8: the first tick of a layer comes at most 49 ticks on, and it shows what the layer's cells
hold. -/
def Obligations.WriteIsShownWithinFortyNineTicks : Prop :=
  ∀ (l : Nat) (s : State), l < 4 → s.pins.clock = false → s.pins.latch = false →
    baseLegal s.cfg.layerMaskBase = true →
    ∃ k t, 1 ≤ k ∧ k ≤ 49 ∧ runTicks k s = some t ∧ t.cur.layer.toNat = l ∧
      (∀ c, c < 16 → t.latched.getLsbD c = decide (t.cur.subStep.toNat < (s.readCell (16 * l + c)).toNat)) ∧
      ∀ j u, 1 ≤ j → j < k → runTicks j s = some u → u.cur.layer.toNat ≠ l

/-! Reset, IDLE and the requests that stop -/

/-- 70_reset_and_hazards.md section 1, RESET from any state, with its frame: the grid is zeroed, the cursor and the pins
take the values of decisions D1 and D6 (log 16), the trace is emptied, and the chain holds some values, of which nothing
is said (decision D7, log 7). That the results are emptied and that `input` and `pending` stay is the model's choice
(log 8, log 10). -/
def Obligations.ResetEffect : Prop :=
  ∀ s : State, ∃ x y : FrameWord, ∃ n : Nat,
    exec .reset s = .next { s with
      grid := []
      cur := ⟨0, 0⟩
      pins := ⟨false, false, false⟩
      shadow := x
      latched := y
      trace := []
      results := []
      draws := n } ∧ ∀ a, gridRead [] a = 0

/-- 10_state.md section 9: what the state after reset holds, less the chain, of which the spec says nothing. The cursor
and pin values are decisions D1 and D6 (log 16). -/
def Obligations.ResetStateHoldsTheResetValues : Prop :=
  (∀ a, State.reset.readCell a = 0) ∧ State.reset.cur = ⟨0, 0⟩ ∧ State.reset.pins = ⟨false, false, false⟩ ∧
    State.reset.trace = []

/-- 70_reset_and_hazards.md section 1: the first tick after a RESET shows the dark frame of cursor (0, 1), in both
wirings. It rests on decisions D1 and D6 (log 16). -/
def Obligations.FirstFrameAfterReset : Prop :=
  ∀ s : State, baseLegal s.cfg.layerMaskBase = true →
    ∃ t, runInstrs [.reset, .tick] s = some t ∧ t.cur = ⟨0, 1⟩ ∧
      t.latched = (if s.cfg.layerMaskBase = 0x02 then 0xFD0000 else 0xEF0000) ∧ t.shadow = t.latched

/-- 70_reset_and_hazards.md section 1: a voxel of layer 0 set to 1 right after a RESET is dark in the first 63 frames
and lit in the 64th. It rests on decisions D1 and D6 (log 16) and D20 (log 18). -/
def Obligations.DimVoxelFirstLitAtTickSixtyFour : Prop :=
  ∀ (s : State) (c : Nat), baseLegal s.cfg.layerMaskBase = true → c < 16 →
    ∃ r, runInstrs [.reset, .set 0 c 1] s = some r ∧ ∀ k, 1 ≤ k → k ≤ 64 →
      ∃ t, runTicks k r = some t ∧ voxelLit s.cfg.layerMaskBase t.latched 0 c = decide (k = 64)

/-- 30_encoding.md section 1, IDLE: it completes and changes nothing. -/
def Obligations.IdleChangesNothing : Prop := ∀ s : State, exec .idle s = .next s

/-- 30_encoding.md section 4: the reserved request is refused in every state, as an operation and as each of its words
(decision D12, log 17), whenever a step takes such a word: so for a turn that presents one at once, and for one that
presents it in program order with no SET owed (the turns are the model's form, log 9). -/
def Obligations.ReservedRequestIsRefused : Prop :=
  (∀ s : State, exec .reservedTickAndWe s = .refused .simultaneousTickAndWrite) ∧
  (∀ (w : Nat) (s : State), 0x0C000 ≤ w → w < 0x10000 → configLegal s.cfg = true →
    (nextRequest s).1 = ⟨.req, w⟩ → step s = .refused .simultaneousTickAndWrite) ∧
  (∀ (w : Nat) (rest : List Turn) (s : State), 0x0C000 ≤ w → w < 0x10000 → configLegal s.cfg = true →
    (s.input = .preempt ⟨.req, w⟩ :: rest ∨ s.input = .request ⟨.req, w⟩ :: rest ∧ s.pending = []) →
    step s = .refused .simultaneousTickAndWrite)

/-- 10_state.md section 6 and 60_exceptions.md section 1: a layer mask base other than 0x02 and 0x10 is refused, by the
tick that reads it and by every step. So are the other values that 00_scope.md section 4 does not call legal: an order
that is no permutation, a tick period of 0, a cell width other than 8. That every step refuses, and for these parameters
too, is the model's reading (log 3, log 4, log 5, log 20). -/
def Obligations.IllegalConfigurationIsRefused : Prop :=
  ∀ s : State,
    (s.cfg.layerMaskBase ≠ 0x02 → s.cfg.layerMaskBase ≠ 0x10 →
      exec .tick s = .refused .illegalConfig ∧ step s = .refused .illegalConfig) ∧
    (isOrderOf 64 s.cfg.fillOrderAll = false →
      (∀ v, v < 256 → exec (.fill v) s = .refused .illegalConfig) ∧ step s = .refused .illegalConfig) ∧
    (isOrderOf 16 s.cfg.fillOrderLayer = false →
      (∀ l v, l < 4 → v < 256 → exec (.filllayer l v) s = .refused .illegalConfig) ∧
      step s = .refused .illegalConfig) ∧
    (s.cfg.tTick = 0 → step s = .refused .illegalConfig) ∧
    (s.cfg.brightW ≠ 8 → step s = .refused .illegalConfig)

/-! The machine -/

/-- A step runs the decoded request: when the next turn is a request that decodes to an operation, the step is that
operation at the state without that turn; a request in program order waits until no SET is owed. How requests are held
is the model's choice (log 9). -/
def Obligations.StepRunsTheDecodedRequest : Prop :=
  ∀ (r : Request) (i : Instr) (rest : List Turn) (s : State), configLegal s.cfg = true → decode r = .ok i →
    (s.input = .preempt r :: rest → step s = exec i { s with input := rest }) ∧
    (s.input = .request r :: rest → s.pending = [] → step s = exec i { s with input := rest })

/-- The foreground's turn: the step is the next SET owed, and nothing when none is owed; the foreground also goes on
while a request in program order waits and when the environment has chosen no further turn. The model's choice of form (log 9, log 10). -/
def Obligations.ForegroundTurnRunsTheNextOwedSet : Prop :=
  ∀ (r : Request) (i : Instr) (owed : List Request) (rest : List Turn) (s : State), configLegal s.cfg = true →
    (s.input = .foreground :: rest → s.pending = r :: owed → decode r = .ok i →
      step s = exec i { s with input := rest, pending := owed }) ∧
    (s.input = [] → s.pending = r :: owed → decode r = .ok i → step s = exec i { s with pending := owed }) ∧
    (∀ r', s.input = .request r' :: rest → s.pending = r :: owed → decode r = .ok i →
      step s = exec i { s with pending := owed }) ∧
    (s.input = .foreground :: rest → s.pending = [] → step s = .next { s with input := rest }) ∧
    (s.input = [] → s.pending = [] → step s = .next s)

/-- The state after reset meets the invariant. Its pin and configuration clauses rest on decision D6 and on the values
of log 2 and log 4. -/
def Obligations.ResetMeetsTheInvariant : Prop := Inv State.reset

/-- 10_state.md section 10 (a) and (b), for every state and every request: a step from a state that meets the invariant
ends in one that does. The grid's form, the configuration and `pending` are the model's own clauses. -/
def Obligations.StepKeepsTheInvariant : Prop := ∀ s t : State, Inv s → step s = .next t → Inv t

/-- Every operation completes (60_exceptions.md section 1): from a state that meets the invariant, a step whose request
an interface can carry and is not the reserved pattern answers a next state. -/
def Obligations.EveryStepCompletes : Prop :=
  ∀ s : State, Inv s → (nextRequest s).1.wellFormed = true → decode (nextRequest s).1 ≠ .ok .reservedTickAndWe →
    ∃ t, step s = .next t

/-- 10_state.md section 10 (c) and (d) with 42_refresh_engine.md section 3: a tick from low pins leaves the outputs at
the frame of its cursor and the grid it met, and showing that cursor's layer; every operation of the request interface
but RESET and TICK, and the read port's, leaves the outputs as they are, so that what `FrameShown` says stays true. -/
def Obligations.ShownFrameIsKept : Prop :=
  (∀ s t : State, s.pins.clock = false → s.pins.latch = false → exec .tick s = .next t →
    FrameShown t ∧ t.latched = frame s.grid t.cur s.cfg.layerMaskBase) ∧
  (∀ (i : Instr) (s t : State), FrameShown s →
    i = .idle ∨ (∃ l c v, i = .set l c v) ∨ (∃ l c, i = .get l c) ∨ (∃ v, i = .fill v) ∨ (∃ l v, i = .filllayer l v) →
    exec i s = .next t → FrameShown t ∧ t.latched = s.latched)

/-- 70_reset_and_hazards.md section 4: no operation depends on the two durations. (A step looks at the tick period only
to refuse 0, which 00_scope.md section 4 does not allow: log 3, log 5.) -/
def Obligations.DurationsChangeNothing : Prop :=
  ∀ (i : Instr) (s : State) (tTick tSettle : Nat),
    exec i (s.setDurations tTick tSettle) = mapNext (fun t => t.setDurations tTick tSettle) (exec i s)

/-- 10_state.md section 6: no step writes the configuration. -/
def Obligations.ConfigurationNeverChanges : Prop := ∀ s t : State, step s = .next t → t.cfg = s.cfg

/-- 10_state.md section 3: no operation but TICK and RESET changes the cursor. -/
def Obligations.CursorIsTheTicksAlone : Prop :=
  ∀ (i : Instr) (s t : State), i ≠ .tick → i ≠ .reset → exec i s = .next t → t.cur = s.cur

/-- 70_reset_and_hazards.md section 3, wiring variant: a layer byte of one variant on a board of the other. The lit
function is decision D20 (log 18). -/
def Obligations.WrongWiringSelectsTheWrongLayer : Prop :=
  ∀ (layer : BitVec 2) (columns : BitVec 16) (l : Nat), l < 4 →
    layerOn 0x10 (layerSel layer 0x02 ++ columns) l = decide (layer = 3 ∧ l = 0) ∧
    layerOn 0x02 (layerSel layer 0x10 ++ columns) l = decide (layer = 0 ∧ l = 3)

/-- 00_scope.md section 4, which configurations a step goes on with: it refuses as `IllegalConfig` exactly when some
parameter is outside its legal values there, and any settling time is legal. That a step refuses, and for every parameter,
is the model's reading (log 3, log 4, log 5, log 20). -/
def Obligations.StepsRefuseExactlyTheIllegalConfigurations : Prop :=
  ∀ s : State, step s = .refused .illegalConfig ↔
    ¬ ((s.cfg.layerMaskBase = 0x02 ∨ s.cfg.layerMaskBase = 0x10) ∧ 0 < s.cfg.tTick ∧
      s.cfg.fillOrderAll.Perm (List.range 64) ∧ s.cfg.fillOrderLayer.Perm (List.range 16) ∧ s.cfg.brightW = 8)
end

