-- ==== Sys2Proof/Laws/State.lean ====
section
/-! SUPPORT. What each named update of State does to each field: it stores its own and leaves the others. -/

namespace Sys2Proof.Machine

@[simp] theorem State.setGrid_grid (s : State) (v : Grid) : (s.setGrid v).grid = v := rfl
@[simp] theorem State.setGrid_cur (s : State) (v : Grid) : (s.setGrid v).cur = s.cur := rfl
@[simp] theorem State.setGrid_pins (s : State) (v : Grid) : (s.setGrid v).pins = s.pins := rfl
@[simp] theorem State.setGrid_shadow (s : State) (v : Grid) : (s.setGrid v).shadow = s.shadow := rfl
@[simp] theorem State.setGrid_latched (s : State) (v : Grid) : (s.setGrid v).latched = s.latched := rfl
@[simp] theorem State.setGrid_cfg (s : State) (v : Grid) : (s.setGrid v).cfg = s.cfg := rfl
@[simp] theorem State.setGrid_trace (s : State) (v : Grid) : (s.setGrid v).trace = s.trace := rfl
@[simp] theorem State.setGrid_results (s : State) (v : Grid) : (s.setGrid v).results = s.results := rfl
@[simp] theorem State.setGrid_input (s : State) (v : Grid) : (s.setGrid v).input = s.input := rfl
@[simp] theorem State.setGrid_pending (s : State) (v : Grid) : (s.setGrid v).pending = s.pending := rfl
@[simp] theorem State.setGrid_draws (s : State) (v : Grid) : (s.setGrid v).draws = s.draws := rfl

@[simp] theorem State.setCur_grid (s : State) (v : Cursor) : (s.setCur v).grid = s.grid := rfl
@[simp] theorem State.setCur_cur (s : State) (v : Cursor) : (s.setCur v).cur = v := rfl
@[simp] theorem State.setCur_pins (s : State) (v : Cursor) : (s.setCur v).pins = s.pins := rfl
@[simp] theorem State.setCur_shadow (s : State) (v : Cursor) : (s.setCur v).shadow = s.shadow := rfl
@[simp] theorem State.setCur_latched (s : State) (v : Cursor) : (s.setCur v).latched = s.latched := rfl
@[simp] theorem State.setCur_cfg (s : State) (v : Cursor) : (s.setCur v).cfg = s.cfg := rfl
@[simp] theorem State.setCur_trace (s : State) (v : Cursor) : (s.setCur v).trace = s.trace := rfl
@[simp] theorem State.setCur_results (s : State) (v : Cursor) : (s.setCur v).results = s.results := rfl
@[simp] theorem State.setCur_input (s : State) (v : Cursor) : (s.setCur v).input = s.input := rfl
@[simp] theorem State.setCur_pending (s : State) (v : Cursor) : (s.setCur v).pending = s.pending := rfl
@[simp] theorem State.setCur_draws (s : State) (v : Cursor) : (s.setCur v).draws = s.draws := rfl

@[simp] theorem State.setPins_grid (s : State) (v : Pins) : (s.setPins v).grid = s.grid := rfl
@[simp] theorem State.setPins_cur (s : State) (v : Pins) : (s.setPins v).cur = s.cur := rfl
@[simp] theorem State.setPins_pins (s : State) (v : Pins) : (s.setPins v).pins = v := rfl
@[simp] theorem State.setPins_shadow (s : State) (v : Pins) : (s.setPins v).shadow = s.shadow := rfl
@[simp] theorem State.setPins_latched (s : State) (v : Pins) : (s.setPins v).latched = s.latched := rfl
@[simp] theorem State.setPins_cfg (s : State) (v : Pins) : (s.setPins v).cfg = s.cfg := rfl
@[simp] theorem State.setPins_trace (s : State) (v : Pins) : (s.setPins v).trace = s.trace := rfl
@[simp] theorem State.setPins_results (s : State) (v : Pins) : (s.setPins v).results = s.results := rfl
@[simp] theorem State.setPins_input (s : State) (v : Pins) : (s.setPins v).input = s.input := rfl
@[simp] theorem State.setPins_pending (s : State) (v : Pins) : (s.setPins v).pending = s.pending := rfl
@[simp] theorem State.setPins_draws (s : State) (v : Pins) : (s.setPins v).draws = s.draws := rfl

@[simp] theorem State.setShadow_grid (s : State) (v : FrameWord) : (s.setShadow v).grid = s.grid := rfl
@[simp] theorem State.setShadow_cur (s : State) (v : FrameWord) : (s.setShadow v).cur = s.cur := rfl
@[simp] theorem State.setShadow_pins (s : State) (v : FrameWord) : (s.setShadow v).pins = s.pins := rfl
@[simp] theorem State.setShadow_shadow (s : State) (v : FrameWord) : (s.setShadow v).shadow = v := rfl
@[simp] theorem State.setShadow_latched (s : State) (v : FrameWord) : (s.setShadow v).latched = s.latched := rfl
@[simp] theorem State.setShadow_cfg (s : State) (v : FrameWord) : (s.setShadow v).cfg = s.cfg := rfl
@[simp] theorem State.setShadow_trace (s : State) (v : FrameWord) : (s.setShadow v).trace = s.trace := rfl
@[simp] theorem State.setShadow_results (s : State) (v : FrameWord) : (s.setShadow v).results = s.results := rfl
@[simp] theorem State.setShadow_input (s : State) (v : FrameWord) : (s.setShadow v).input = s.input := rfl
@[simp] theorem State.setShadow_pending (s : State) (v : FrameWord) : (s.setShadow v).pending = s.pending := rfl
@[simp] theorem State.setShadow_draws (s : State) (v : FrameWord) : (s.setShadow v).draws = s.draws := rfl

@[simp] theorem State.setLatched_grid (s : State) (v : FrameWord) : (s.setLatched v).grid = s.grid := rfl
@[simp] theorem State.setLatched_cur (s : State) (v : FrameWord) : (s.setLatched v).cur = s.cur := rfl
@[simp] theorem State.setLatched_pins (s : State) (v : FrameWord) : (s.setLatched v).pins = s.pins := rfl
@[simp] theorem State.setLatched_shadow (s : State) (v : FrameWord) : (s.setLatched v).shadow = s.shadow := rfl
@[simp] theorem State.setLatched_latched (s : State) (v : FrameWord) : (s.setLatched v).latched = v := rfl
@[simp] theorem State.setLatched_cfg (s : State) (v : FrameWord) : (s.setLatched v).cfg = s.cfg := rfl
@[simp] theorem State.setLatched_trace (s : State) (v : FrameWord) : (s.setLatched v).trace = s.trace := rfl
@[simp] theorem State.setLatched_results (s : State) (v : FrameWord) : (s.setLatched v).results = s.results := rfl
@[simp] theorem State.setLatched_input (s : State) (v : FrameWord) : (s.setLatched v).input = s.input := rfl
@[simp] theorem State.setLatched_pending (s : State) (v : FrameWord) : (s.setLatched v).pending = s.pending := rfl
@[simp] theorem State.setLatched_draws (s : State) (v : FrameWord) : (s.setLatched v).draws = s.draws := rfl

@[simp] theorem State.setTrace_grid (s : State) (v : List PinWrite) : (s.setTrace v).grid = s.grid := rfl
@[simp] theorem State.setTrace_cur (s : State) (v : List PinWrite) : (s.setTrace v).cur = s.cur := rfl
@[simp] theorem State.setTrace_pins (s : State) (v : List PinWrite) : (s.setTrace v).pins = s.pins := rfl
@[simp] theorem State.setTrace_shadow (s : State) (v : List PinWrite) : (s.setTrace v).shadow = s.shadow := rfl
@[simp] theorem State.setTrace_latched (s : State) (v : List PinWrite) : (s.setTrace v).latched = s.latched := rfl
@[simp] theorem State.setTrace_cfg (s : State) (v : List PinWrite) : (s.setTrace v).cfg = s.cfg := rfl
@[simp] theorem State.setTrace_trace (s : State) (v : List PinWrite) : (s.setTrace v).trace = v := rfl
@[simp] theorem State.setTrace_results (s : State) (v : List PinWrite) : (s.setTrace v).results = s.results := rfl
@[simp] theorem State.setTrace_input (s : State) (v : List PinWrite) : (s.setTrace v).input = s.input := rfl
@[simp] theorem State.setTrace_pending (s : State) (v : List PinWrite) : (s.setTrace v).pending = s.pending := rfl
@[simp] theorem State.setTrace_draws (s : State) (v : List PinWrite) : (s.setTrace v).draws = s.draws := rfl

@[simp] theorem State.setResults_grid (s : State) (v : List Byte) : (s.setResults v).grid = s.grid := rfl
@[simp] theorem State.setResults_cur (s : State) (v : List Byte) : (s.setResults v).cur = s.cur := rfl
@[simp] theorem State.setResults_pins (s : State) (v : List Byte) : (s.setResults v).pins = s.pins := rfl
@[simp] theorem State.setResults_shadow (s : State) (v : List Byte) : (s.setResults v).shadow = s.shadow := rfl
@[simp] theorem State.setResults_latched (s : State) (v : List Byte) : (s.setResults v).latched = s.latched := rfl
@[simp] theorem State.setResults_cfg (s : State) (v : List Byte) : (s.setResults v).cfg = s.cfg := rfl
@[simp] theorem State.setResults_trace (s : State) (v : List Byte) : (s.setResults v).trace = s.trace := rfl
@[simp] theorem State.setResults_results (s : State) (v : List Byte) : (s.setResults v).results = v := rfl
@[simp] theorem State.setResults_input (s : State) (v : List Byte) : (s.setResults v).input = s.input := rfl
@[simp] theorem State.setResults_pending (s : State) (v : List Byte) : (s.setResults v).pending = s.pending := rfl
@[simp] theorem State.setResults_draws (s : State) (v : List Byte) : (s.setResults v).draws = s.draws := rfl

@[simp] theorem State.setInput_grid (s : State) (v : List Turn) : (s.setInput v).grid = s.grid := rfl
@[simp] theorem State.setInput_cur (s : State) (v : List Turn) : (s.setInput v).cur = s.cur := rfl
@[simp] theorem State.setInput_pins (s : State) (v : List Turn) : (s.setInput v).pins = s.pins := rfl
@[simp] theorem State.setInput_shadow (s : State) (v : List Turn) : (s.setInput v).shadow = s.shadow := rfl
@[simp] theorem State.setInput_latched (s : State) (v : List Turn) : (s.setInput v).latched = s.latched := rfl
@[simp] theorem State.setInput_cfg (s : State) (v : List Turn) : (s.setInput v).cfg = s.cfg := rfl
@[simp] theorem State.setInput_trace (s : State) (v : List Turn) : (s.setInput v).trace = s.trace := rfl
@[simp] theorem State.setInput_results (s : State) (v : List Turn) : (s.setInput v).results = s.results := rfl
@[simp] theorem State.setInput_input (s : State) (v : List Turn) : (s.setInput v).input = v := rfl
@[simp] theorem State.setInput_pending (s : State) (v : List Turn) : (s.setInput v).pending = s.pending := rfl
@[simp] theorem State.setInput_draws (s : State) (v : List Turn) : (s.setInput v).draws = s.draws := rfl

@[simp] theorem State.setPending_grid (s : State) (v : List Request) : (s.setPending v).grid = s.grid := rfl
@[simp] theorem State.setPending_cur (s : State) (v : List Request) : (s.setPending v).cur = s.cur := rfl
@[simp] theorem State.setPending_pins (s : State) (v : List Request) : (s.setPending v).pins = s.pins := rfl
@[simp] theorem State.setPending_shadow (s : State) (v : List Request) : (s.setPending v).shadow = s.shadow := rfl
@[simp] theorem State.setPending_latched (s : State) (v : List Request) : (s.setPending v).latched = s.latched := rfl
@[simp] theorem State.setPending_cfg (s : State) (v : List Request) : (s.setPending v).cfg = s.cfg := rfl
@[simp] theorem State.setPending_trace (s : State) (v : List Request) : (s.setPending v).trace = s.trace := rfl
@[simp] theorem State.setPending_results (s : State) (v : List Request) : (s.setPending v).results = s.results := rfl
@[simp] theorem State.setPending_input (s : State) (v : List Request) : (s.setPending v).input = s.input := rfl
@[simp] theorem State.setPending_pending (s : State) (v : List Request) : (s.setPending v).pending = v := rfl
@[simp] theorem State.setPending_draws (s : State) (v : List Request) : (s.setPending v).draws = s.draws := rfl

@[simp] theorem State.setDraws_grid (s : State) (v : Nat) : (s.setDraws v).grid = s.grid := rfl
@[simp] theorem State.setDraws_cur (s : State) (v : Nat) : (s.setDraws v).cur = s.cur := rfl
@[simp] theorem State.setDraws_pins (s : State) (v : Nat) : (s.setDraws v).pins = s.pins := rfl
@[simp] theorem State.setDraws_shadow (s : State) (v : Nat) : (s.setDraws v).shadow = s.shadow := rfl
@[simp] theorem State.setDraws_latched (s : State) (v : Nat) : (s.setDraws v).latched = s.latched := rfl
@[simp] theorem State.setDraws_cfg (s : State) (v : Nat) : (s.setDraws v).cfg = s.cfg := rfl
@[simp] theorem State.setDraws_trace (s : State) (v : Nat) : (s.setDraws v).trace = s.trace := rfl
@[simp] theorem State.setDraws_results (s : State) (v : Nat) : (s.setDraws v).results = s.results := rfl
@[simp] theorem State.setDraws_input (s : State) (v : Nat) : (s.setDraws v).input = s.input := rfl
@[simp] theorem State.setDraws_pending (s : State) (v : Nat) : (s.setDraws v).pending = s.pending := rfl
@[simp] theorem State.setDraws_draws (s : State) (v : Nat) : (s.setDraws v).draws = v := rfl

/-- Two states with equal fields are equal. -/
theorem State.eq_of_fields {s t : State} (h1 : s.grid = t.grid) (h2 : s.cur = t.cur) (h3 : s.pins = t.pins)
    (h4 : s.shadow = t.shadow) (h5 : s.latched = t.latched) (h6 : s.cfg = t.cfg) (h7 : s.trace = t.trace)
    (h8 : s.results = t.results) (h9 : s.input = t.input) (h10 : s.pending = t.pending)
    (h11 : s.draws = t.draws) : s = t := by
  cases s
  cases t
  simp_all

end Sys2Proof.Machine
end

