-- ==== Sys2Proof/Laws/Grid.lean ====
section
/-! SUPPORT. The laws of the grid: a read after a write, the cells a write leaves alone, and the canonical form. -/

namespace Sys2Proof.Machine

/-- A cell below every listed address is not listed. -/
theorem gridRead_of_lt_all (g : Grid) (a : Nat) (h : g.all (fun c => decide (a < c.1)) = true) :
    gridRead g a = cellDefault := by
  induction g with
  | nil => rfl
  | cons c rest ih =>
    obtain ⟨b, w⟩ := c
    simp only [List.all_cons, Bool.and_eq_true, decide_eq_true_eq] at h
    rw [gridRead, if_neg (by omega)]
    exact ih h.2

/-- The parts of the canonical form of a listed cell and the cells after it. -/
theorem gridWf_cons (b : Nat) (w : Byte) (rest : Grid) :
    gridWf ((b, w) :: rest) = true ↔
      b < 64 ∧ w ≠ cellDefault ∧ rest.all (fun c => decide (b < c.1)) = true ∧ gridWf rest = true := by
  simp only [gridWf, Bool.and_eq_true, decide_eq_true_eq, and_assoc]

/-- A write leaves every other cell alone. -/
theorem gridRead_gridWrite_of_ne (g : Grid) {a a' : Nat} (v : Byte) (h : a' ≠ a) :
    gridRead (gridWrite g a v) a' = gridRead g a' := by
  induction g with
  | nil =>
    by_cases hv : v = cellDefault
    · simp [gridWrite, hv]
    · simp [gridWrite, gridRead, hv, Ne.symm h]
  | cons c rest ih =>
    obtain ⟨b, w⟩ := c
    simp only [gridWrite]
    split_ifs with h1 h2 h3 h4
    · rfl
    · simp [gridRead, Ne.symm h]
    · subst h3
      simp [gridRead, Ne.symm h]
    · subst h3
      simp [gridRead, Ne.symm h]
    · simp [gridRead, ih]

/-- A read after a write of the same cell gives the value written. -/
theorem gridRead_gridWrite_self (g : Grid) (a : Nat) (v : Byte) (h : gridWf g = true) :
    gridRead (gridWrite g a v) a = v := by
  induction g with
  | nil =>
    by_cases hv : v = cellDefault
    · simp [gridWrite, gridRead, hv]
    · simp [gridWrite, gridRead, hv]
  | cons c rest ih =>
    obtain ⟨b, w⟩ := c
    obtain ⟨-, -, hall, hwf⟩ := (gridWf_cons b w rest).1 h
    simp only [gridWrite]
    split_ifs with h1 h2 h3 h4
    · rw [h2]
      refine gridRead_of_lt_all _ _ ?_
      simp only [List.all_cons, Bool.and_eq_true, decide_eq_true_eq]
      refine ⟨h1, List.all_eq_true.2 fun x hx => ?_⟩
      have := List.all_eq_true.1 hall x hx
      simp only [decide_eq_true_eq] at this ⊢
      omega
    · simp [gridRead]
    · rw [h4, h3]
      exact gridRead_of_lt_all _ _ hall
    · simp [gridRead]
    · rw [gridRead, if_neg (Ne.symm h3)]
      exact ih hwf

/-- A write adds no address but the one written. -/
theorem gridWrite_all (g : Grid) (a : Nat) (v : Byte) (p : Nat → Bool)
    (hg : g.all (fun c => p c.1) = true) (ha : p a = true) : (gridWrite g a v).all (fun c => p c.1) = true := by
  induction g with
  | nil =>
    simp only [gridWrite]
    split_ifs <;> simp [ha]
  | cons c rest ih =>
    obtain ⟨b, w⟩ := c
    simp only [List.all_cons, Bool.and_eq_true] at hg
    simp only [gridWrite]
    split_ifs <;> simp [ha, hg.1, hg.2, ih hg.2]

/-- A write keeps the canonical form. -/
theorem gridWf_gridWrite (g : Grid) (a : Nat) (v : Byte) (ha : a < 64) (h : gridWf g = true) :
    gridWf (gridWrite g a v) = true := by
  induction g with
  | nil =>
    by_cases hv : v = cellDefault
    · simp [gridWrite, gridWf, hv]
    · simp [gridWrite, gridWf, hv, ha]
  | cons c rest ih =>
    obtain ⟨b, w⟩ := c
    obtain ⟨hb, hw, hall, hwf⟩ := (gridWf_cons b w rest).1 h
    simp only [gridWrite]
    split_ifs with h1 h2 h3 h4
    · exact h
    · refine (gridWf_cons _ _ _).2 ⟨ha, h2, ?_, h⟩
      simp only [List.all_cons, Bool.and_eq_true, decide_eq_true_eq]
      refine ⟨h1, List.all_eq_true.2 fun x hx => ?_⟩
      have := List.all_eq_true.1 hall x hx
      simp only [decide_eq_true_eq] at this ⊢
      omega
    · exact hwf
    · subst h3
      exact (gridWf_cons _ _ _).2 ⟨ha, h4, hall, hwf⟩
    · exact (gridWf_cons _ _ _).2 ⟨hb, hw, gridWrite_all rest a v (fun n => decide (b < n)) hall
        (by simp only [decide_eq_true_eq]; omega), ih hwf⟩

/-- The grid after reset is canonical. -/
theorem gridWf_reset : gridWf State.reset.grid = true := rfl

/-- All that storing a cell does to a state. -/
theorem writeCell_spec (s : State) (a : Nat) (v : Byte) :
    s.writeCell a v = { s with grid := gridWrite s.grid a v } := rfl

end Sys2Proof.Machine
end

