-- ==== Sys2Proof/Laws/Exec.lean ====
section
/-! SUPPORT. What a grid operation and a step did when they answer a next state, each said once. -/

namespace Sys2Proof.Machine

/-- An index check that finds nothing. -/
theorem indexViolation_eq_none (layer : Nat) (column : Option Nat) :
    indexViolation layer column = none ↔ layer ≤ 3 ∧ column.getD 0 ≤ 15 := by
  unfold indexViolation
  split_ifs with h
  · simp; omega
  · simp; omega

/-- A brightness check that finds nothing. -/
theorem brightnessViolation_eq_none (brightness : Nat) :
    brightnessViolation brightness = none ↔ brightness ≤ 255 := by
  unfold brightnessViolation
  split_ifs with h
  · simp; omega
  · simp; omega

/-- A checked operation that answers a next state had no violation. -/
theorem unlessViolated_next {found : Option ContractCause} {go : Host.Outcome State Fault Refusal} {t : State}
    (h : unlessViolated found go = .next t) : found = none ∧ go = .next t := by
  cases found with
  | none => exact ⟨rfl, h⟩
  | some cause => simp [unlessViolated, raiseContractViolation] at h

/-- What a SET that answers a next state did. -/
theorem execSet_next {layer column brightness : Nat} {s t : State}
    (h : execSet layer column brightness s = .next t) :
    layer ≤ 3 ∧ column ≤ 15 ∧ brightness ≤ 255 ∧
      t = s.writeCell (cellAddr layer column) (BitVec.ofNat 8 brightness) := by
  obtain ⟨h1, h2⟩ := unlessViolated_next h
  rw [Option.or_eq_none_iff, indexViolation_eq_none, brightnessViolation_eq_none] at h1
  injection h2 with h2
  exact ⟨h1.1.1, h1.1.2, h1.2, h2.symm⟩

/-- What a GET that answers a next state did. -/
theorem execGet_next {layer column : Nat} {s t : State} (h : execGet layer column s = .next t) :
    layer ≤ 3 ∧ column ≤ 15 ∧ t = s.setResults (s.results ++ [s.readCell (cellAddr layer column)]) := by
  obtain ⟨h1, h2⟩ := unlessViolated_next h
  rw [indexViolation_eq_none] at h1
  injection h2 with h2
  exact ⟨h1.1, h1.2, h2.symm⟩

/-- A legal order is a permutation of the numbers below `n` (00_scope.md R10). -/
theorem isOrderOf_iff_perm (n : Nat) (order : List Nat) :
    isOrderOf n order = true ↔ order.Perm (List.range n) := by
  simp only [isOrderOf, Bool.and_eq_true, beq_iff_eq, List.all_eq_true, List.mem_range, List.contains_iff_mem]
  constructor
  · rintro ⟨hlen, hall⟩
    have hsub : (List.range n).Subperm order :=
      List.nodup_range.subperm (fun a ha => hall a (List.mem_range.1 ha))
    exact (hsub.perm_of_length_le (by simp [hlen])).symm
  · exact fun h => ⟨by simpa using h.length_eq, fun a ha => h.mem_iff.2 (List.mem_range.2 ha)⟩

/-- The parts of a legal configuration. -/
theorem configLegal_iff (c : Config) :
    configLegal c = true ↔
      baseLegal c.layerMaskBase = true ∧ isOrderOf 64 c.fillOrderAll = true ∧
        isOrderOf 16 c.fillOrderLayer = true ∧ 0 < c.tTick ∧ c.brightW = 8 := by
  simp only [configLegal, Bool.and_eq_true, beq_iff_eq, decide_eq_true_eq, and_assoc]

/-- Expanding an order gives one SET for each of its entries. -/
theorem expandSets_length (order : List Nat) (brightness : Nat) :
    (expandSets order brightness).length = order.length := List.length_map _

/-- The SETs stand in the order's order. -/
theorem expandSets_getElem? (order : List Nat) (brightness k : Nat) :
    (expandSets order brightness)[k]? =
      order[k]?.map (fun a => encode (.set (a / 16) (a % 16) brightness)) := List.getElem?_map ..

/-- Owing SETs touches `pending` only. -/
theorem queueSets_eq (order : List Nat) (brightness : Nat) (s : State) :
    queueSets order brightness s = { s with pending := s.pending ++ expandSets order brightness } := rfl

/-- What a FILL that answers a next state did. -/
theorem execFill_next {brightness : Nat} {s t : State} (h : execFill brightness s = .next t) :
    brightness ≤ 255 ∧ isOrderOf 64 s.cfg.fillOrderAll = true ∧ t = queueSets s.cfg.fillOrderAll brightness s := by
  obtain ⟨h1, h2⟩ := unlessViolated_next h
  rw [brightnessViolation_eq_none] at h1
  split_ifs at h2 with h3
  injection h2 with h2
  exact ⟨h1, h3, h2.symm⟩

/-- What a FILLLAYER that answers a next state did. -/
theorem execFilllayer_next {layer brightness : Nat} {s t : State} (h : execFilllayer layer brightness s = .next t) :
    layer ≤ 3 ∧ brightness ≤ 255 ∧ isOrderOf 16 s.cfg.fillOrderLayer = true ∧
      t = queueSets (s.cfg.fillOrderLayer.map (cellAddr layer)) brightness s := by
  obtain ⟨h1, h2⟩ := unlessViolated_next h
  rw [Option.or_eq_none_iff, indexViolation_eq_none, brightnessViolation_eq_none] at h1
  split_ifs at h2 with h3
  injection h2 with h2
  exact ⟨h1.1.1, h1.2, h3, h2.symm⟩

/-- What a TICK that answers a next state did. -/
theorem execTick_next {s t : State} (h : execTick s = .next t) :
    baseLegal s.cfg.layerMaskBase = true ∧ t = tickBody s := by
  unfold execTick at h
  split_ifs at h with h1
  injection h with h
  exact ⟨h1, h.symm⟩

/-- What a step that answers a next state did: it performed the operation its request decodes to. -/
theorem step_next {s t : State} (h : step s = .next t) :
    configLegal s.cfg = true ∧ ∃ i, decode (nextRequest s).1 = .ok i ∧ exec i (nextRequest s).2 = .next t := by
  unfold step at h
  split_ifs at h with h1
  refine ⟨h1, ?_⟩
  cases hd : decode (nextRequest s).1 with
  | ok i =>
    rw [hd] at h
    exact ⟨i, rfl, h⟩
  | error why =>
    rw [hd] at h
    cases h

/-- Taking the next request touches `input` and `pending` only. -/
theorem nextRequest_rest (s : State) : ∃ inp pen, (nextRequest s).2 = { s with input := inp, pending := pen } := by
  unfold nextRequest foregroundTurn
  cases s.input with
  | nil => cases s.pending <;> exact ⟨_, _, rfl⟩
  | cons turn rest =>
    cases turn with
    | request r => cases s.pending <;> exact ⟨_, _, rfl⟩
    | preempt r => exact ⟨_, _, rfl⟩
    | foreground => simp only [State.setInput_pending]; cases s.pending <;> exact ⟨_, _, rfl⟩

end Sys2Proof.Machine
end

