-- ==== Sys2Proof/Laws/PerInstr.lean ====
section
/-! SUPPORT. The word of a well-formed operation fits its interface, one lemma per operation. -/

namespace Sys2Proof.Laws.EncodeFits

/-- The encoding of a well-formed operation is a word its interface can carry. -/
def Statement (i : Instr) : Prop := i.wellFormed = true → (encode i).wellFormed = true

theorem reset : Statement .reset := fun _ => rfl
theorem reservedTickAndWe : Statement .reservedTickAndWe := fun _ => rfl
theorem tick : Statement .tick := fun _ => rfl
theorem set (layer column brightness : Nat) : Statement (.set layer column brightness) := by
  intro h
  simp only [Instr.wellFormed, Bool.and_eq_true, decide_eq_true_eq] at h
  refine decide_eq_true ?_
  simp only [encode, Format.width]
  omega
theorem idle : Statement .idle := fun _ => rfl
theorem get (layer column : Nat) : Statement (.get layer column) := by
  intro h
  simp only [Instr.wellFormed, Bool.and_eq_true, decide_eq_true_eq] at h
  refine decide_eq_true ?_
  simp only [encode, Format.width]
  omega
theorem shiftbit (b : Bool) : Statement (.shiftbit b) := by cases b <;> exact fun _ => rfl
theorem txbyte (b : Byte) : Statement (.txbyte b) := by
  intro _
  have := b.isLt
  refine decide_eq_true ?_
  simp only [encode, Format.width]
  omega
theorem commit : Statement .commit := fun _ => rfl
theorem emitframe (s h l : Byte) : Statement (.emitframe s h l) := by
  intro _
  have := s.isLt
  have := h.isLt
  have := l.isLt
  refine decide_eq_true ?_
  simp only [encode, Format.width]
  omega
theorem fill (brightness : Nat) : Statement (.fill brightness) := by
  intro h
  simp only [Instr.wellFormed, decide_eq_true_eq] at h
  refine decide_eq_true ?_
  simp only [encode, Format.width]
  omega
theorem filllayer (layer brightness : Nat) : Statement (.filllayer layer brightness) := by
  intro h
  simp only [Instr.wellFormed, Bool.and_eq_true, decide_eq_true_eq] at h
  refine decide_eq_true ?_
  simp only [encode, Format.width]
  omega

end Sys2Proof.Laws.EncodeFits
end

