-- ==== Sys2Proof/Laws/Serial.lean ====
section
/-! SUPPORT. What a pin write, a bit cell, a byte, a latch pulse and a frame do, each said once. -/

namespace Sys2Proof.Machine

/-- All that a write of DATA does. -/
theorem pinWrite_data (b : Bool) (s : State) :
    pinWrite .data b s = { s with pins := { s.pins with data := b }, trace := s.trace ++ [(.data, b)] } := rfl

/-- All that a rising edge of CLOCK does. -/
theorem pinWrite_clock_rise (s : State) (h : s.pins.clock = false) :
    pinWrite .clock true s =
      { s with pins := { s.pins with clock := true }, trace := s.trace ++ [(.clock, true)],
               shadow := (s.shadow <<< 1) ||| (BitVec.ofBool s.pins.data).setWidth 24 } := by
  simp [pinWrite, storePin, chainReact, logPin, chainShift, State.setPins, State.setTrace, State.setShadow, h]

/-- All that a fall of CLOCK does. -/
theorem pinWrite_clock_fall (s : State) :
    pinWrite .clock false s =
      { s with pins := { s.pins with clock := false }, trace := s.trace ++ [(.clock, false)] } := by
  simp [pinWrite, storePin, chainReact, logPin, State.setPins, State.setTrace]

/-- All that a rising edge of LATCH does. -/
theorem pinWrite_latch_rise (s : State) (h : s.pins.latch = false) :
    pinWrite .latch true s =
      { s with pins := { s.pins with latch := true }, trace := s.trace ++ [(.latch, true)],
               latched := s.shadow } := by
  simp [pinWrite, storePin, chainReact, logPin, chainLatch, State.setPins, State.setTrace, State.setLatched, h]

/-- All that a fall of LATCH does. -/
theorem pinWrite_latch_fall (s : State) :
    pinWrite .latch false s =
      { s with pins := { s.pins with latch := false }, trace := s.trace ++ [(.latch, false)] } := by
  simp [pinWrite, storePin, chainReact, logPin, State.setPins, State.setTrace]

/-- All that a bit cell does when CLOCK is low. -/
theorem shiftBit_of_clock_low (b : Bool) (s : State) (h : s.pins.clock = false) :
    shiftBit b s =
      { s with pins := ⟨b, false, s.pins.latch⟩,
               trace := s.trace ++ [(.data, b), (.clock, true), (.clock, false)],
               shadow := (s.shadow <<< 1) ||| (BitVec.ofBool b).setWidth 24 } := by
  rw [shiftBit, pinWrite_clock_fall, pinWrite_clock_rise, pinWrite_data]
  · simp
  · exact h

/-- All that a latch pulse does when LATCH is low. -/
theorem commitFrame_of_latch_low (s : State) (h : s.pins.latch = false) :
    commitFrame s =
      { s with pins := ⟨s.pins.data, s.pins.clock, false⟩,
               trace := s.trace ++ [(.latch, true), (.latch, false)], latched := s.shadow } := by
  rw [commitFrame, pinWrite_latch_fall, pinWrite_latch_rise]
  · simp
  · exact h

/-- Eight shifts place a byte in the eight nearest stages and move the old sixteen nearest ones up. -/
theorem eight_shifts (x : FrameWord) (b : Byte) :
    [7, 6, 5, 4, 3, 2, 1, 0].foldl
        (fun (y : FrameWord) i => (y <<< 1) ||| (BitVec.ofBool (b.getLsbD i)).setWidth 24) x =
      x.extractLsb' 0 16 ++ b := by
  simp only [List.foldl]
  apply BitVec.eq_of_getLsbD_eq
  intro i hi
  rw [BitVec.getLsbD_append]
  interval_cases i <;> simp

/-- A bit cell leaves CLOCK low, whatever it was. -/
theorem shiftBit_clock (b : Bool) (s : State) : (shiftBit b s).pins.clock = false := by
  rw [shiftBit, pinWrite_clock_fall]

/-- A latch pulse leaves LATCH low, whatever it was. -/
theorem commitFrame_latch (s : State) : (commitFrame s).pins.latch = false := by
  rw [commitFrame, pinWrite_latch_fall]

/-- What a run of bit cells does when CLOCK is low: the last bit stays on DATA, the cells are appended to the trace and
the bits are shifted in one after another. -/
theorem shiftBits_of_clock_low (b : Byte) (is : List Nat) (s : State) (h : s.pins.clock = false) :
    is.foldl (fun t i => shiftBit (b.getLsbD i) t) s =
      { s with pins := ⟨(is.getLast?.map b.getLsbD).getD s.pins.data, false, s.pins.latch⟩,
               trace := s.trace ++ is.flatMap (fun i => bitCell (b.getLsbD i)),
               shadow := is.foldl (fun y i => (y <<< 1) ||| (BitVec.ofBool (b.getLsbD i)).setWidth 24) s.shadow } := by
  induction is generalizing s with
  | nil =>
    obtain ⟨_, _, ⟨_, _, _⟩, _⟩ := s
    simp_all
  | cons i is ih =>
    rw [List.foldl_cons, ih _ (shiftBit_clock _ _), shiftBit_of_clock_low _ _ h]
    cases is <;> simp [bitCell, List.getLast?_cons]

/-- All that a byte does when CLOCK is low. -/
theorem txByte_of_clock_low (b : Byte) (s : State) (h : s.pins.clock = false) :
    txByte b s =
      { s with pins := ⟨b.getLsbD 0, false, s.pins.latch⟩, trace := s.trace ++ byteCells b,
               shadow := s.shadow.extractLsb' 0 16 ++ b } := by
  rw [txByte, shiftBits_of_clock_low _ _ _ h, eight_shifts]
  rfl

/-- Three bytes fill all 24 stages, the first one furthest from the data input. -/
theorem three_bytes (x : FrameWord) (sel high low : Byte) :
    ((x.extractLsb' 0 16 ++ sel : FrameWord).extractLsb' 0 16 ++ high : FrameWord).extractLsb' 0 16 ++ low =
      sel ++ high ++ low := by
  apply BitVec.eq_of_getLsbD_eq
  intro i hi
  simp only [BitVec.getLsbD_append, BitVec.getLsbD_extractLsb']
  interval_cases i <;> simp

/-- All that a frame does when CLOCK and LATCH are low. -/
theorem emitFrame_of_low (sel high low : Byte) (s : State) (hc : s.pins.clock = false) (hl : s.pins.latch = false) :
    emitFrame sel high low s =
      { s with pins := ⟨low.getLsbD 0, false, false⟩,
               trace := s.trace ++ byteCells sel ++ byteCells high ++ byteCells low ++ latchPulse,
               shadow := sel ++ high ++ low, latched := sel ++ high ++ low } := by
  rw [emitFrame, txByte_of_clock_low sel s hc, txByte_of_clock_low high _ rfl, txByte_of_clock_low low _ rfl,
    commitFrame_of_latch_low]
  · simp only [three_bytes, latchPulse]
  · exact hl

/-- A pin write touches the pins, the trace and the chain only. -/
theorem pinWrite_rest (x : Pin) (b : Bool) (s : State) :
    ∃ p tr sh la, pinWrite x b s = { s with pins := p, trace := tr, shadow := sh, latched := la } := by
  cases x
  · exact ⟨_, _, _, _, rfl⟩
  · simp only [pinWrite, chainReact]
    split_ifs <;> exact ⟨_, _, _, _, rfl⟩
  · simp only [pinWrite, chainReact]
    split_ifs <;> exact ⟨_, _, _, _, rfl⟩

/-- A bit cell touches the pins, the trace and the chain only, whatever the pins hold. -/
theorem shiftBit_rest (b : Bool) (s : State) :
    ∃ p tr sh la, shiftBit b s = { s with pins := p, trace := tr, shadow := sh, latched := la } := by
  obtain ⟨_, _, _, _, h1⟩ := pinWrite_rest .data b s
  obtain ⟨_, _, _, _, h2⟩ := pinWrite_rest .clock true (pinWrite .data b s)
  obtain ⟨_, _, _, _, h3⟩ := pinWrite_rest .clock false (pinWrite .clock true (pinWrite .data b s))
  rw [shiftBit, h3, h2, h1]
  exact ⟨_, _, _, _, rfl⟩

/-- A byte touches the pins, the trace and the chain only, whatever the pins hold. -/
theorem txByte_rest (b : Byte) (s : State) :
    ∃ p tr sh la, txByte b s = { s with pins := p, trace := tr, shadow := sh, latched := la } := by
  have key : ∀ (is : List Nat) (t : State), ∃ p tr sh la,
      is.foldl (fun u i => shiftBit (b.getLsbD i) u) t = { t with pins := p, trace := tr, shadow := sh, latched := la } := by
    intro is
    induction is with
    | nil => exact fun t => ⟨_, _, _, _, rfl⟩
    | cons i is ih =>
      intro t
      obtain ⟨_, _, _, _, h1⟩ := shiftBit_rest (b.getLsbD i) t
      obtain ⟨_, _, _, _, h2⟩ := ih (shiftBit (b.getLsbD i) t)
      rw [List.foldl_cons, h2, h1]
      exact ⟨_, _, _, _, rfl⟩
  exact key _ s

/-- A latch pulse touches the pins, the trace and the chain only, whatever the pins hold. -/
theorem commitFrame_rest (s : State) :
    ∃ p tr sh la, commitFrame s = { s with pins := p, trace := tr, shadow := sh, latched := la } := by
  obtain ⟨_, _, _, _, h1⟩ := pinWrite_rest .latch true s
  obtain ⟨_, _, _, _, h2⟩ := pinWrite_rest .latch false (pinWrite .latch true s)
  rw [commitFrame, h2, h1]
  exact ⟨_, _, _, _, rfl⟩

/-- A frame touches the pins, the trace and the chain only, whatever the pins hold. -/
theorem emitFrame_rest (sel high low : Byte) (s : State) :
    ∃ p tr sh la, emitFrame sel high low s = { s with pins := p, trace := tr, shadow := sh, latched := la } := by
  obtain ⟨_, _, _, _, h1⟩ := txByte_rest sel s
  obtain ⟨_, _, _, _, h2⟩ := txByte_rest high (txByte sel s)
  obtain ⟨_, _, _, _, h3⟩ := txByte_rest low (txByte high (txByte sel s))
  obtain ⟨_, _, _, _, h4⟩ := commitFrame_rest (txByte low (txByte high (txByte sel s)))
  rw [emitFrame, h4, h3, h2, h1]
  exact ⟨_, _, _, _, rfl⟩

end Sys2Proof.Machine
end

