-- ==== Sys2Proof/Laws/Refresh.lean ====
section
/-! SUPPORT. What the refresh engine's functions give, bit by bit, and what a tick touches. -/

namespace Sys2Proof.Machine

/-- A bit of a column byte is the lit bit of its column. -/
theorem columnByte_getLsbD (row : Nat → Byte) (subStep : BitVec 4) (i : Nat) (hi : i < 8) :
    (columnByte row subStep).getLsbD i = lit (row i) subStep := by
  have step (acc : Byte) (k : Nat) (j : Nat) (hj : j < 8) :
      (if lit (row k) subStep then acc ||| (1 <<< k) else acc).getLsbD j =
        (acc.getLsbD j || (lit (row k) subStep && decide (j = k))) := by
    have one : (1 <<< k : Byte) = BitVec.twoPow 8 k := rfl
    by_cases h : lit (row k) subStep = true
    · simp only [h, if_true, one, BitVec.getLsbD_or, BitVec.getLsbD_twoPow, Bool.true_and]
      rcases eq_or_ne k j with rfl | hk
      · simp [hj]
      · simp [hk, hk.symm]
    · simp [h]
  simp only [columnByte, List.foldl, step _ _ _ hi]
  interval_cases i <;> simp

/-- All that a tick does when CLOCK and LATCH are low, before the trace is read as that of one frame. -/
theorem tickBody_shown (s : State) (hc : s.pins.clock = false) (hl : s.pins.latch = false) :
    (tickBody s).latched = frame s.grid (advance s.cur) s.cfg.layerMaskBase ∧
      (tickBody s).shadow = (tickBody s).latched := by
  rw [show tickBody s = _ from emitFrame_of_low _ _ _ (s.setCur (advance s.cur)) hc hl]
  exact ⟨rfl, rfl⟩

/-- A tick touches the cursor, the pins, the trace and the chain only, whatever the pins hold. -/
theorem tickBody_rest (s : State) :
    ∃ p tr sh la, tickBody s = { s with cur := advance s.cur, pins := p, trace := tr, shadow := sh, latched := la } := by
  obtain ⟨_, _, _, _, h⟩ := emitFrame_rest (layerSel (advance s.cur).layer s.cfg.layerMaskBase)
    (columnsHigh s.grid (advance s.cur).layer (advance s.cur).subStep)
    (columnsLow s.grid (advance s.cur).layer (advance s.cur).subStep) (s.setCur (advance s.cur))
  rw [tickBody, h]
  exact ⟨_, _, _, _, rfl⟩

end Sys2Proof.Machine
end

