-- ==== Sys2Proof/Tests/Slice0.lean ====
section
/-! SUPPORT. Tests on the spec's own vectors (95_test_vectors.md and the examples of the rules), and for every
statement with hypotheses a witness that they can be met. -/

namespace Sys2Proof.Tests

open Sys2Proof.Machine

/-! Ill-formed terms, one for each check of WellFormed, and the widest well-formed ones. -/

theorem test_wf_set_layer : (Instr.set 4 0 0).wellFormed = false := by decide
theorem test_wf_set_column : (Instr.set 0 16 0).wellFormed = false := by decide
theorem test_wf_set_brightness : (Instr.set 0 0 256).wellFormed = false := by decide
theorem test_wf_set : (Instr.set 3 15 255).wellFormed = true := by decide
theorem test_wf_get_layer : (Instr.get 4 0).wellFormed = false := by decide
theorem test_wf_get_column : (Instr.get 0 16).wellFormed = false := by decide
theorem test_wf_fill_brightness : (Instr.fill 256).wellFormed = false := by decide
theorem test_wf_filllayer_layer : (Instr.filllayer 4 0).wellFormed = false := by decide
theorem test_wf_filllayer_brightness : (Instr.filllayer 0 256).wellFormed = false := by decide
theorem test_wf_request : (Request.mk .req 0x20000).wellFormed = false := by decide

/-! Decoding, each word written out from the pattern of its table row, 95_test_vectors.md section 3. -/

theorem test_decode_reset : decode ⟨.req, 0b11111111111111111⟩ = .ok .reset := rfl
theorem test_decode_reserved : decode ⟨.req, 0b01100000000000000⟩ = .ok .reservedTickAndWe := rfl
theorem test_decode_tick : decode ⟨.req, 0b01011111111111111⟩ = .ok .tick := rfl
theorem test_decode_set : decode ⟨.req, 0b00110010100010000⟩ = .ok (.set 2 5 16) := rfl
theorem test_decode_idle : decode ⟨.req, 0b00000000011111111⟩ = .ok .idle := rfl
theorem test_decode_get : decode ⟨.portR, 0b100101⟩ = .ok (.get 2 5) := rfl
theorem test_decode_shiftbit : decode ⟨.bit, 0b1⟩ = .ok (.shiftbit true) := rfl
theorem test_decode_txbyte : decode ⟨.ser, 0b010110000⟩ = .ok (.txbyte 0xB0) := rfl
theorem test_decode_commit : decode ⟨.ser, 0b111111111⟩ = .ok .commit := rfl
theorem test_decode_emitframe :
    decode ⟨.frame, 0b111101110000000000100000⟩ = .ok (.emitframe 0xF7 0x00 0x20) := rfl
theorem test_decode_fill : decode ⟨.fillArg, 0b00001111⟩ = .ok (.fill 15) := rfl
theorem test_decode_filllayer : decode ⟨.fillLayerArg, 0b0100000111⟩ = .ok (.filllayer 1 7) := rfl

/-- The canonical words of 30_encoding.md R91. -/
theorem test_encode_words :
    encode .reset = ⟨.req, 0x10000⟩ ∧ encode .tick = ⟨.req, 0x08000⟩ ∧ encode (.set 2 5 16) = ⟨.req, 0x06510⟩ ∧
      encode (.get 2 5) = ⟨.portR, 0x25⟩ ∧ encode .commit = ⟨.ser, 0x100⟩ ∧
      encode (.emitframe 0xF7 0 0x20) = ⟨.frame, 0xF70020⟩ := by decide

/-- The reading of table words (log 11): the rows with fixed bits, and the widest operands of the rows without. -/
theorem test_table_words :
    decodeTableWord 24 0x10000 = some .reset ∧ decodeTableWord 24 0x0C000 = some .reservedTickAndWe ∧
      decodeTableWord 24 0x08000 = some .tick ∧ decodeTableWord 24 0x04000 = some (.set 0 0 0) ∧
      decodeTableWord 24 0 = some .idle ∧ decodeTableWord 16 0 = some (.txbyte 0) ∧
      decodeTableWord 16 0x100 = some .commit ∧ decodeTableWord 8 0x3F = some (.get 3 15) ∧
      decodeTableWord 8 1 = some (.shiftbit true) ∧ decodeTableWord 24 0xF70020 = some (.emitframe 0xF7 0 0x20) ∧
      decodeTableWord 8 0xFF = some (.fill 255) ∧ decodeTableWord 16 0x3FF = some (.filllayer 3 255) := by decide

/-! One operation each. -/

/-- A state after reset with other chain contents, cursor and one cell. -/
def start (shadow latched : FrameWord) (cur : Cursor) (grid : Grid) : State :=
  { State.reset with shadow := shadow, latched := latched, cur := cur, grid := grid }

/-- `start` on the board of wiring variant B. -/
def startB (cur : Cursor) (grid : Grid) : State :=
  { State.reset with cur := cur, grid := grid, cfg := { Config.default with layerMaskBase := 0x10 } }

/-- What an operation leaves of one field. -/
def after {α : Type} (i : Instr) (s : State) (f : State → α) : Option α := (nextState? (exec i s)).map f

/-- R241: the grid, the cursor and the trace after a RESET. -/
theorem test_reset :
    after .reset { start 0xABCDEF 0 ⟨2, 3⟩ [(37, 16)] with trace := [(.data, true)] }
      (fun t => (t.readCell 37, t.cur, t.trace)) = some (0, ⟨0, 0⟩, []) := by decide
/-- R89. -/
theorem test_reserved (s : State) : exec .reservedTickAndWe s = .refused .simultaneousTickAndWrite := rfl
/-- 95_test_vectors.md section 6.4. -/
theorem test_tick :
    after .tick (start 0xFB0000 0xFB0000 ⟨1, 15⟩ [(37, 16)]) (fun t => (t.cur, t.shadow, t.latched, t.pins)) =
      some (⟨2, 0⟩, 0xF70020, 0xF70020, ⟨false, false, false⟩) := by decide
/-- 95_test_vectors.md program P5, tick 1. -/
theorem test_tick_variant_b :
    after .tick (startB ⟨0, 15⟩ [(16, 1), (31, 255)]) (fun t => t.latched) = some 0xDF8001 := by decide
/-- R141's example. -/
theorem test_set : after (.set 2 5 16) State.reset (fun t => (t.readCell 37, t.readCell 36)) = some (16, 0) := by decide
/-- 95_test_vectors.md section 5: 255 is stored as given; index checked before brightness. -/
theorem test_set_edges :
    after (.set 3 15 255) State.reset (fun t => t.readCell 63) = some 255 ∧
      indexViolation 4 (some 0) = some (.outOfRangeIndex 4 (some 0)) ∧
      (indexViolation 4 (some 0)).or (brightnessViolation 256) = some (.outOfRangeIndex 4 (some 0)) := by decide
/-- R83. -/
theorem test_idle (s : State) : exec .idle s = .next s := rfl
/-- R142's example. -/
theorem test_get :
    after (.get 2 5) (start 0 0 ⟨0, 0⟩ [(37, 16)]) (fun t => t.results) = some [16] ∧
      after (.get 2 4) (start 0 0 ⟨0, 0⟩ [(37, 16)]) (fun t => t.results) = some [0] := by decide
/-- 95_test_vectors.md section 4.1. -/
theorem test_shiftbit :
    after (.shiftbit true) (start 0x800000 0 ⟨0, 0⟩ []) (fun t => t.shadow) = some 0x000001 ∧
      after (.shiftbit false) (start 0xFFFFFF 0 ⟨0, 0⟩ []) (fun t => t.shadow) = some 0xFFFFFE := by decide
/-- 95_test_vectors.md section 4.2. -/
theorem test_txbyte :
    after (.txbyte 0xFD) (start 0xABCDEF 0x123456 ⟨0, 0⟩ []) (fun t => (t.shadow, t.latched, t.pins.data)) =
      some (0xCDEFFD, 0x123456, true) := by decide
/-- R112's example: the emitted bits of 0xB0. -/
theorem test_txbyte_bits :
    after (.txbyte 0xB0) State.reset (fun t => emittedBits State.reset.pins t.trace) =
      some [true, false, true, true, false, false, false, false] := by decide
/-- 95_test_vectors.md section 4.3. -/
theorem test_commit :
    after .commit (start 0xF70020 0x123456 ⟨0, 0⟩ []) (fun t => (t.latched, t.shadow, t.trace)) =
      some (0xF70020, 0xF70020, [(.latch, true), (.latch, false)]) := by decide
/-- 95_test_vectors.md section 4.4, with its counts of writes and level changes. -/
theorem test_emitframe :
    after (.emitframe 0xF7 0x00 0x20) (start 0xABCDEF 0x123456 ⟨0, 0⟩ [])
      (fun t => (t.latched, t.trace.length, levelChanges State.reset.pins t.trace)) = some (0xF70020, 74, 56) := by
  decide
/-- 95_test_vectors.md program P2: the FILL's words. -/
theorem test_fill :
    after (.fill 15) State.reset (fun t => (t.pending.length, t.pending.head?, t.pending.getLast?)) =
      some (64, some ⟨.req, 0x0400F⟩, some ⟨.req, 0x07F0F⟩) := by decide
/-- 95_test_vectors.md section 5: the FILLLAYER's words. -/
theorem test_filllayer :
    after (.filllayer 2 9) State.reset (fun t => (t.pending.length, t.pending.head?, t.pending.getLast?)) =
      some (16, some ⟨.req, 0x06009⟩, some ⟨.req, 0x06F09⟩) := by decide

/-! Observers. -/

/-- 95_test_vectors.md section 6.4: the one voxel of 0xF70020 in variant A, and a neighbour. -/
theorem test_voxelLit :
    voxelLit 0x02 0xF70020 2 5 = true ∧ voxelLit 0x02 0xF70020 2 4 = false ∧ voxelLit 0x02 0xF70020 1 5 = false := by
  decide
/-- `column = 4*x + y` and `layer = z` name each column and layer once (10_state.md R37). -/
theorem test_column_of_xy :
    columnOfXY 0 0 = 0 ∧ columnOfXY 1 1 = 5 ∧ columnOfXY 3 3 = 15 ∧ layerOfZ 3 = 3 := by decide

/-! Steps. -/

/-- After reset with nothing asked for, a step is IDLE. -/
theorem test_step_idle : nextState? (step State.reset) = some State.reset := by decide
/-- A placed word is the very next operation. -/
theorem test_step_set :
    (nextState? (step (State.reset.withFetchWord 24 0x06510))).map (fun t => (t.readCell 37, t.input)) =
      some (16, []) := by decide
/-- A placed FILL owes its SETs, and the next step presents the first of them. -/
theorem test_step_fill :
    (runSteps 2 (State.reset.withFetchWord 8 0xC8)).map (fun t => (t.pending.length, t.readCell 0, t.readCell 1)) =
      some (63, 0xC8, 0) := by decide
/-- 95_test_vectors.md S5, on one layer: after `fillLayer(1, 7)` a `get` of its last column returns 7. -/
theorem test_filllayer_then_get :
    (runSteps 18 { State.reset with
      input := [.request ⟨.fillLayerArg, 0x107⟩, .request ⟨.portR, 0x1F⟩] }).map (fun t => t.results) = some [7] := by
  decide
/-- 95_test_vectors.md section 7, P4, at its torn tick: one column of the layer is written when the timer fires. -/
theorem test_torn_tick :
    (runSteps 3 { start 0 0 ⟨3, 15⟩ [] with
      input := [.request ⟨.fillLayerArg, 16⟩, .foreground, .preempt ⟨.req, 0x08000⟩] }).map (fun t => t.latched) =
      some 0xFD0001 := by decide
/-- A word wider than its interface is rejected by name. -/
theorem test_step_too_wide :
    step { State.reset with input := [.request ⟨.req, 0x20000⟩] } = .refused (.undecoded (.wordTooWide .req)) := by
  rfl

/-! Witnesses: the hypotheses of each statement can be met, at the edges of its ranges. -/

/-- The state after reset with turns to come. -/
def withTurns (turns : List Turn) : State := { State.reset with input := turns }

theorem witness_DecodeOfEncodeIsTheOperation :
    (Instr.set 0 0 0).wellFormed = true ∧ (Instr.set 3 15 255).wellFormed = true ∧
      (Instr.get 3 15).wellFormed = true ∧ (Instr.filllayer 3 255).wellFormed = true := by decide
theorem witness_EveryReqWordDecodes :
    decode ⟨.req, 0x1FFFF⟩ = .ok .reset ∧ decode ⟨.req, 0x10000⟩ = .ok .reset ∧
      decode ⟨.req, 0x0FFFF⟩ = .ok .reservedTickAndWe ∧ decode ⟨.req, 0x0C000⟩ = .ok .reservedTickAndWe ∧
      decode ⟨.req, 0x0BFFF⟩ = .ok .tick ∧ decode ⟨.req, 0x08000⟩ = .ok .tick ∧
      decode ⟨.req, 0x07FFF⟩ = .ok (.set 3 15 255) ∧ decode ⟨.req, 0x04000⟩ = .ok (.set 0 0 0) ∧
      decode ⟨.req, 0x03FFF⟩ = .ok .idle ∧ decode ⟨.req, 0⟩ = .ok .idle := ⟨rfl, rfl, rfl, rfl, rfl, rfl, rfl, rfl, rfl, rfl⟩
theorem witness_EverySerWordDecodes :
    decode ⟨.ser, 0x0FF⟩ = .ok (.txbyte 0xFF) ∧ decode ⟨.ser, 0x100⟩ = .ok .commit ∧
      decode ⟨.ser, 0x1FF⟩ = .ok .commit := ⟨rfl, rfl, rfl⟩
theorem witness_DecodingIsTotal :
    (Request.mk .req 0x1FFFF).wellFormed = true ∧ (Request.mk .req 0x20000).wellFormed = false ∧
      (Request.mk .bit 1).wellFormed = true ∧ (Request.mk .bit 2).wellFormed = false := by decide
theorem witness_PinWriteEffect :
    State.reset.pins.clock = false ∧ State.reset.pins.latch = false ∧ (Pin.data ≠ Pin.clock) := by decide
theorem witness_TxbyteEffect : State.reset.pins.clock = false := rfl
theorem witness_CommitTwiceIsCommitOnce : State.reset.pins.latch = false := rfl
theorem witness_EmitframeEffect : State.reset.pins.clock = false ∧ State.reset.pins.latch = false := by decide
theorem witness_OutputsChangeOnceInAFrame :
    State.reset.pins.clock = false ∧ State.reset.pins.latch = false ∧
      (applyPinWrites ((frameTrace 0xF70020).take 72) (start 0xABCDEF 0x123456 ⟨0, 0⟩ [])).latched = 0x123456 ∧
      (applyPinWrites ((frameTrace 0xF70020).take 73) (start 0xABCDEF 0x123456 ⟨0, 0⟩ [])).latched = 0xF70020 := by decide
theorem witness_ThreeBytesPlaceTheFrame : State.reset.pins.clock = false := rfl
theorem witness_MisplacedCommitLatchesTheLastBits :
    State.reset.pins.clock = false ∧ State.reset.pins.latch = false := by decide
theorem witness_ActiveEdgeIsNotSeen :
    State.reset.pins.clock = false ∧ State.reset.pins.latch = false ∧
      (applyPinWritesFalling (frameTrace 0xF70020) State.reset).latched = 0xF70020 := by decide
theorem witness_PinWriteCountsAreFixed : baseLegal State.reset.cfg.layerMaskBase = true := by decide
theorem witness_FrameChangesFiftyToSeventyFourLevels :
    levelChanges State.reset.pins (frameTrace 0x000000) = 50 ∧
      levelChanges State.reset.pins (frameTrace 0xAAAAAA) = 74 := by decide
theorem witness_SetEffect :
    gridWf (start 0 0 ⟨0, 0⟩ [(0, 1), (63, 255)]).grid = true ∧
      after (.set 0 0 0) (start 0 0 ⟨0, 0⟩ [(0, 1), (63, 255)]) (fun t => t.grid) = some [(63, 255)] ∧
      after (.set 3 15 16) (start 0 0 ⟨0, 0⟩ [(0, 1), (63, 255)]) (fun t => t.grid) = some [(0, 1), (63, 16)] := by
  decide
theorem witness_GetEffect :
    after (.get 0 0) (start 0 0 ⟨0, 0⟩ [(0, 1), (63, 255)]) (fun t => t.results) = some [1] ∧
      after (.get 3 15) (start 0 0 ⟨0, 0⟩ [(0, 1), (63, 255)]) (fun t => t.results) = some [255] := by decide
theorem witness_GetAfterSet :
    gridWf (start 0 0 ⟨0, 0⟩ [(0, 1)]).grid = true ∧ (3 < 4 ∧ 15 < 16 ∧ 255 < 256) ∧
      (runInstrs [.set 3 15 255, .get 3 15] (start 0 0 ⟨0, 0⟩ [(0, 1)])).map (fun t => t.results) = some [255] ∧
      (runInstrs [.set 3 15 255, .get 0 0] (start 0 0 ⟨0, 0⟩ [(0, 1)])).map (fun t => t.results) = some [1] := by decide
theorem witness_OutOfRangeIndexIsRaised :
    exec (.set 4 15 0) State.reset = .fault (.contractViolation (.outOfRangeIndex 4 (some 15))) ∧
      exec (.get 3 16) State.reset = .fault (.contractViolation (.outOfRangeIndex 3 (some 16))) ∧
      exec (.filllayer 4 256) State.reset = .fault (.contractViolation (.outOfRangeIndex 4 none)) := ⟨rfl, rfl, rfl⟩
theorem witness_BrightnessTooWideIsRaised :
    exec (.set 3 15 256) State.reset = .fault (.contractViolation (.brightnessTooWide 256)) ∧
      exec (.filllayer 3 256) State.reset = .fault (.contractViolation (.brightnessTooWide 256)) ∧
      exec (.fill 256) State.reset = .fault (.contractViolation (.brightnessTooWide 256)) := ⟨rfl, rfl, rfl⟩
/-- A configuration whose two orders are descending. -/
def descending : Config :=
  { Config.default with fillOrderAll := (List.range 64).reverse, fillOrderLayer := (List.range 16).reverse }
theorem witness_FillOwesOneSetPerCell :
    255 < 256 ∧ isOrderOf 64 State.reset.cfg.fillOrderAll = true ∧ isOrderOf 64 descending.fillOrderAll = true ∧
      State.reset.cfg.fillOrderAll[0]? = some (16 * 0 + 0) ∧ State.reset.cfg.fillOrderAll[63]? = some (16 * 3 + 15) ∧
      descending.fillOrderAll[0]? = some (16 * 3 + 15) ∧ descending.fillOrderAll[63]? = some (16 * 0 + 0) := by decide
theorem witness_FilllayerOwesOneSetPerColumn :
    3 < 4 ∧ 255 < 256 ∧ isOrderOf 16 State.reset.cfg.fillOrderLayer = true ∧
      isOrderOf 16 descending.fillOrderLayer = true ∧
      State.reset.cfg.fillOrderLayer[0]? = some 0 ∧ State.reset.cfg.fillOrderLayer[15]? = some 15 ∧
      descending.fillOrderLayer[0]? = some 15 ∧ descending.fillOrderLayer[15]? = some 0 := by decide
/-- Turns with a tick and an idle event among the foreground's. -/
def mergedTurns (n : Nat) : List Turn :=
  .preempt ⟨.req, 0x08000⟩ :: .foreground :: .preempt ⟨.req, 0⟩ :: List.replicate n .foreground
theorem witness_FillFillsUnderEveryMerge :
    255 < 256 ∧ gridWf (withTurns (.request ⟨.fillArg, 255⟩ :: mergedTurns 63)).grid = true ∧
      configLegal (withTurns (.request ⟨.fillArg, 255⟩ :: mergedTurns 63)).cfg = true ∧
      (withTurns (.request ⟨.fillArg, 255⟩ :: mergedTurns 63)).pending = [] ∧
      (withTurns (.request ⟨.fillArg, 255⟩ :: mergedTurns 63)).input = .request ⟨.fillArg, 255⟩ :: mergedTurns 63 ∧
      (mergedTurns 63).all isQuietTurn = true ∧ 64 ≤ (mergedTurns 63).count .foreground := by decide
theorem witness_FilllayerFillsUnderEveryMerge :
    3 < 4 ∧ 255 < 256 ∧ gridWf (withTurns (.request ⟨.fillLayerArg, 0x100 * 3 + 255⟩ :: mergedTurns 15)).grid = true ∧
      configLegal (withTurns (.request ⟨.fillLayerArg, 0x100 * 3 + 255⟩ :: mergedTurns 15)).cfg = true ∧
      (withTurns (.request ⟨.fillLayerArg, 0x100 * 3 + 255⟩ :: mergedTurns 15)).pending = [] ∧
      (withTurns (.request ⟨.fillLayerArg, 0x100 * 3 + 255⟩ :: mergedTurns 15)).input =
        .request ⟨.fillLayerArg, 0x100 * 3 + 255⟩ :: mergedTurns 15 ∧
      (mergedTurns 15).all isQuietTurn = true ∧ 16 ≤ (mergedTurns 15).count .foreground := by decide
theorem witness_FillsFinishBeforeTheNextRequest :
    3 < 4 ∧ 255 < 256 ∧ gridWf (withTurns [.request ⟨.fillArg, 255⟩, .request ⟨.portR, 0x3F⟩]).grid = true ∧
      configLegal (withTurns [.request ⟨.fillArg, 255⟩, .request ⟨.portR, 0x3F⟩]).cfg = true ∧
      (withTurns [.request ⟨.fillArg, 255⟩, .request ⟨.portR, 0x3F⟩]).pending = [] ∧
      (withTurns [.request ⟨.fillArg, 255⟩, .request ⟨.portR, 0x3F⟩]).input =
        .request ⟨.fillArg, 255⟩ :: [.request ⟨.portR, 0x3F⟩] ∧
      (withTurns [.request ⟨.fillLayerArg, 0x100 * 3 + 255⟩]).input =
        .request ⟨.fillLayerArg, 0x100 * 3 + 255⟩ :: [] := by decide
theorem witness_LastWriteWins :
    gridWf State.reset.grid = true ∧
      ∀ w ∈ [((3 : Nat), (15 : Nat), (255 : Nat)), (3, 15, 16), (0, 0, 0)], w.1 < 4 ∧ w.2.1 < 16 ∧ w.2.2 < 256 := by
  decide
theorem witness_GridAndLinkAreSeparate :
    (∃ t, exec (.set 3 15 255) State.reset = .next t) ∧ (∃ t, exec (.get 3 15) State.reset = .next t) ∧
      (∃ t, exec (.fill 255) State.reset = .next t) ∧ (∃ t, exec (.filllayer 3 255) State.reset = .next t) ∧
      (∃ t, exec .tick State.reset = .next t) ∧ (∃ t, exec .commit State.reset = .next t) ∧
      (∃ t, exec (.shiftbit true) State.reset = .next t) ∧ (∃ t, exec (.txbyte 1) State.reset = .next t) ∧
      (∃ t, exec (.emitframe 1 2 3) State.reset = .next t) :=
  ⟨⟨_, rfl⟩, ⟨_, rfl⟩, ⟨_, rfl⟩, ⟨_, rfl⟩, ⟨_, rfl⟩, ⟨_, rfl⟩, ⟨_, rfl⟩, ⟨_, rfl⟩, ⟨_, rfl⟩⟩
theorem witness_GridsThatReadAlikeAreEqual :
    gridWf [(0, 1), (63, 255)] = true ∧ gridWf (gridWrite (gridWrite [] 63 255) 0 1) = true ∧
      ∀ a, gridRead [(0, 1), (63, 255)] a = gridRead (gridWrite (gridWrite [] 63 255) 0 1) a :=
  ⟨rfl, rfl, fun _ => rfl⟩
theorem witness_AdvanceIncrementsTheFlatCursor :
    advance ⟨0, 14⟩ = ⟨0, 15⟩ ∧ advance ⟨0, 15⟩ = ⟨1, 0⟩ ∧ advance ⟨3, 15⟩ = ⟨0, 0⟩ := by decide
theorem witness_LayerSelIsOneCold : baseLegal 0x02 = true ∧ baseLegal 0x10 = true := by decide
theorem witness_LitIsStrictlyGreater :
    lit 16 15 = true ∧ lit 255 15 = true ∧ lit 15 15 = false ∧ lit 0 0 = false := by decide
theorem witness_ColumnBytesBitByBit :
    (columnsLow [(0, 1), (15, 255)] 0 0).getLsbD 0 = true ∧ (columnsHigh [(0, 1), (15, 255)] 0 0).getLsbD 7 = true := by
  decide
theorem witness_FrameBitByBit :
    (frame [(0, 1), (15, 255)] ⟨0, 0⟩ 0x02).getLsbD 0 = true ∧ (frame [(0, 1), (15, 255)] ⟨0, 0⟩ 0x02).getLsbD 15 = true := by
  decide
theorem witness_TickEffect :
    State.reset.pins.clock = false ∧ State.reset.pins.latch = false ∧
      baseLegal State.reset.cfg.layerMaskBase = true ∧ baseLegal (startB ⟨0, 0⟩ []).cfg.layerMaskBase = true := by decide
/-- Two states that differ in a cell of another layer, the chain and DATA. -/
theorem witness_TickDependsOnOneLayerOnly :
    (start 1 2 ⟨0, 15⟩ [(3, 5), (20, 7)]).cur = (start 3 4 ⟨0, 15⟩ [(20, 7)]).cur ∧
      (start 1 2 ⟨0, 15⟩ [(3, 5), (20, 7)]).cfg = (start 3 4 ⟨0, 15⟩ [(20, 7)]).cfg ∧
      (start 1 2 ⟨0, 15⟩ [(3, 5), (20, 7)]).pins = ⟨false, false, false⟩ ∧
      (start 3 4 ⟨0, 15⟩ [(20, 7)]).pins = ⟨false, false, false⟩ ∧
      ∀ c < 16, (start 1 2 ⟨0, 15⟩ [(3, 5), (20, 7)]).readCell (16 * (advance ⟨0, 15⟩).layer.toNat + c) =
        (start 3 4 ⟨0, 15⟩ [(20, 7)]).readCell (16 * (advance ⟨0, 15⟩).layer.toNat + c) := by decide
theorem witness_TicksFollowTheCursor :
    State.reset.pins.clock = false ∧ State.reset.pins.latch = false ∧
      baseLegal State.reset.cfg.layerMaskBase = true := by decide
theorem witness_SixtyFourTicksUseEachCursorOnce : baseLegal State.reset.cfg.layerMaskBase = true := by decide
theorem witness_ExactlyOneLayerIsActive :
    State.reset.pins.clock = false ∧ State.reset.pins.latch = false ∧
      baseLegal State.reset.cfg.layerMaskBase = true := by decide
theorem witness_BrightnessIsTheCountOfLitTicks :
    (start 0 0 ⟨0, 0⟩ [(63, 255)]).pins.clock = false ∧ (start 0 0 ⟨0, 0⟩ [(63, 255)]).pins.latch = false ∧
      baseLegal (start 0 0 ⟨0, 0⟩ [(63, 255)]).cfg.layerMaskBase = true ∧
      (start 0 0 ⟨0, 0⟩ [(63, 255)]).readCell (16 * 3 + 15) = 255 := by decide
/-- The edges: a tick away, and 49 ticks away from a layer just left. -/
theorem witness_WriteIsShownWithinFortyNineTicks :
    State.reset.pins.clock = false ∧ State.reset.pins.latch = false ∧
      baseLegal State.reset.cfg.layerMaskBase = true ∧ (advance ⟨0, 15⟩).layer = 1 ∧ (advance ⟨3, 15⟩).layer = 0 := by
  decide
theorem witness_FirstFrameAfterReset :
    baseLegal State.reset.cfg.layerMaskBase = true ∧ State.reset.cfg.layerMaskBase = 0x02 ∧
      baseLegal (startB ⟨1, 1⟩ []).cfg.layerMaskBase = true ∧ (startB ⟨1, 1⟩ []).cfg.layerMaskBase ≠ 0x02 := by decide
theorem witness_DimVoxelFirstLitAtTickSixtyFour :
    baseLegal State.reset.cfg.layerMaskBase = true ∧ 15 < 16 ∧
      (frame [(15, 1)] ⟨0, 0⟩ 0x02).getLsbD 15 = true ∧ (frame [(15, 1)] ⟨3, 15⟩ 0x02).getLsbD 15 = false := by decide
theorem witness_ReservedRequestIsRefused :
    configLegal (withTurns [.preempt ⟨.req, 0x0C000⟩]).cfg = true ∧
      (nextRequest (withTurns [.preempt ⟨.req, 0x0C000⟩])).1 = ⟨.req, 0x0C000⟩ ∧
      (nextRequest (withTurns [.request ⟨.req, 0x0FFFF⟩])).1 = ⟨.req, 0x0FFFF⟩ ∧
      (withTurns [.preempt ⟨.req, 0x0C000⟩]).input = .preempt ⟨.req, 0x0C000⟩ :: [] ∧
      (withTurns [.request ⟨.req, 0x0FFFF⟩]).input = .request ⟨.req, 0x0FFFF⟩ :: [] ∧
      (withTurns [.request ⟨.req, 0x0FFFF⟩]).pending = [] ∧
      step (withTurns [.preempt ⟨.req, 0x0C000⟩]) = .refused .simultaneousTickAndWrite ∧
      step (withTurns [.request ⟨.req, 0x0FFFF⟩]) = .refused .simultaneousTickAndWrite :=
  ⟨rfl, rfl, rfl, rfl, rfl, rfl, rfl, rfl⟩
theorem witness_IllegalConfigurationIsRefused :
    step { State.reset with cfg := { Config.default with layerMaskBase := 0x04 } } = .refused .illegalConfig ∧
      step { State.reset with cfg := { Config.default with fillOrderAll := [0] } } = .refused .illegalConfig ∧
      step { State.reset with cfg := { Config.default with fillOrderLayer := List.replicate 16 0 } } =
        .refused .illegalConfig ∧
      step { State.reset with cfg := { Config.default with tTick := 0 } } = .refused .illegalConfig ∧
      step { State.reset with cfg := { Config.default with brightW := 7 } } = .refused .illegalConfig :=
  ⟨rfl, rfl, rfl, rfl, rfl⟩
/-- The least tick period and a long settling time are legal (00_scope.md R10). -/
theorem test_config_legal_durations :
    configLegal { Config.default with tTick := 1, tSettle := 1000000 } = true := by decide
theorem witness_StepRunsTheDecodedRequest :
    configLegal (withTurns [.request ⟨.req, 0x08000⟩]).cfg = true ∧ decode ⟨.req, 0x08000⟩ = .ok .tick ∧
      (withTurns [.request ⟨.req, 0x08000⟩]).input = .request ⟨.req, 0x08000⟩ :: [] ∧
      (withTurns [.request ⟨.req, 0x08000⟩]).pending = [] ∧
      (withTurns [.preempt ⟨.req, 0x08000⟩]).input = .preempt ⟨.req, 0x08000⟩ :: [] := ⟨rfl, rfl, rfl, rfl, rfl⟩
theorem witness_ForegroundTurnRunsTheNextOwedSet :
    configLegal State.reset.cfg = true ∧ decode ⟨.req, 0x0400F⟩ = .ok (.set 0 0 15) ∧
      (withTurns [.foreground]).pending = [] ∧ State.reset.input = [] ∧ State.reset.pending = [] ∧
      ({ withTurns [.foreground] with pending := [⟨.req, 0x0400F⟩] }).input = .foreground :: [] ∧
      ({ withTurns [.request ⟨.req, 0⟩] with pending := [⟨.req, 0x0400F⟩] }).input = .request ⟨.req, 0⟩ :: [] ∧
      ({ State.reset with pending := [⟨.req, 0x0400F⟩] }).pending = ⟨.req, 0x0400F⟩ :: [] :=
  ⟨rfl, rfl, rfl, rfl, rfl, rfl, rfl, rfl⟩
theorem witness_StepKeepsTheInvariant :
    Inv (withTurns [.request ⟨.req, 0x08000⟩]) ∧
      (nextState? (step (withTurns [.request ⟨.req, 0x08000⟩]))).isSome = true := by decide
theorem witness_EveryStepCompletes :
    Inv (withTurns [.request ⟨.ser, 0x1FF⟩]) ∧
      (nextRequest (withTurns [.request ⟨.ser, 0x1FF⟩])).1.wellFormed = true ∧
      decode (nextRequest (withTurns [.request ⟨.ser, 0x1FF⟩])).1 = .ok .commit := by
  refine ⟨by decide, by decide, rfl⟩
theorem witness_ShownFrameIsKept :
    State.reset.pins.clock = false ∧ State.reset.pins.latch = false ∧ (∃ t, exec .tick State.reset = .next t) ∧
      FrameShown (start 0xFD0000 0xFD0000 ⟨0, 1⟩ []) ∧
      (∃ t, exec (.set 3 15 255) (start 0xFD0000 0xFD0000 ⟨0, 1⟩ []) = .next t) :=
  ⟨rfl, rfl, ⟨_, rfl⟩, by decide, ⟨_, rfl⟩⟩
theorem witness_ConfigurationNeverChanges : ∃ t, step State.reset = .next t := ⟨_, rfl⟩
theorem witness_CursorIsTheTicksAlone :
    Instr.commit ≠ .tick ∧ Instr.commit ≠ .reset ∧ ∃ t, exec .commit State.reset = .next t :=
  ⟨by decide, by decide, ⟨_, rfl⟩⟩
theorem witness_WrongWiringSelectsTheWrongLayer :
    layerOn 0x10 0xEF0000 0 = true ∧ layerOn 0x02 0xEF0000 3 = true ∧ layerOn 0x10 0xFD0000 0 = false := by decide

end Sys2Proof.Tests
end

section
/-! SUPPORT. TXBYTE (40_serial_link.md R112): its meaning is `txByte_of_clock_low`; added here is how long a run of bit
cells is and which bits it emits. -/

namespace Sys2Proof.Machine

/-- The meaning `exec` gives TXBYTE. -/
theorem exec_txbyte (b : Byte) (s : State) : exec (.txbyte b) s = .next (txByte b s) := rfl

/-- Every bit cell is three pin writes, so a run of cells is three times as long as the run of its bits. -/
theorem length_flatMap_bitCell {α : Type} (bit : α → Bool) (xs : List α) :
    (xs.flatMap fun x => bitCell (bit x)).length = 3 * xs.length := by
  simp [List.length_flatMap, bitCell, Nat.mul_comm]

/-- A bit cell that begins with CLOCK low emits its own bit, whatever DATA was, and ends with CLOCK low. -/
theorem emittedBits_bitCell_append (b : Bool) (ws : List PinWrite) (p : Pins) (h : p.clock = false) :
    emittedBits p (bitCell b ++ ws) = b :: emittedBits ⟨b, false, p.latch⟩ ws := by
  simp [bitCell, emittedBits, h]

/-- A run of bit cells that begins with CLOCK low emits its bits in the order of the cells. -/
theorem emittedBits_flatMap_bitCell {α : Type} (bit : α → Bool) (xs : List α) (p : Pins) (h : p.clock = false) :
    emittedBits p (xs.flatMap fun x => bitCell (bit x)) = xs.map bit := by
  induction xs generalizing p with
  | nil => rfl
  | cons x xs ih => rw [List.flatMap_cons, emittedBits_bitCell_append _ _ _ h, ih _ rfl, List.map_cons]

/-- Settles O8: the state is the one `txByte_of_clock_low` gives, and a byte's pin writes are its eight cells, bit 7
first. -/
theorem txbyteEffect : Obligations.TxbyteEffect := by
  intro b s hclock
  refine ⟨?effect, ?count, ?order⟩
  case effect => rw [exec_txbyte, txByte_of_clock_low b s hclock]
  case count => exact length_flatMap_bitCell b.getLsbD _
  case order => exact emittedBits_flatMap_bitCell b.getLsbD _ s.pins hclock

end Sys2Proof.Machine
end

section
/-! SUPPORT. The refresh engine (42_refresh_engine.md sections 1 and 2): the comparator and the column bytes as numbers,
ADVANCE on the flat cursor, the layer byte, the trace of one frame, and TICK as a whole. -/

namespace Sys2Proof.Machine

/-! The comparator and the column bytes, R163 to R165. -/

/-- Zero-extending the sub-step keeps its number, so LIT compares the two numbers. -/
theorem lit_eq_decide_lt (v : Byte) (subStep : BitVec 4) : lit v subStep = decide (subStep.toNat < v.toNat) := by
  have hext : (subStep.setWidth 8).toNat = subStep.toNat := BitVec.toNat_setWidth_of_le (by omega)
  rw [lit, BitVec.ult, hext]

/-- Settles O34: each column byte is `columnByte` of its half of the row, whose bits `columnByte_getLsbD` gives. -/
theorem columnBytesBitByBit : Obligations.ColumnBytesBitByBit := by
  intro g layer subStep i hi
  refine ⟨?low, ?high⟩
  case low => rw [columnsLow, columnByte_getLsbD _ _ i hi, lit_eq_decide_lt, cellAddr]
  case high => rw [columnsHigh, columnByte_getLsbD _ _ i hi, lit_eq_decide_lt, cellAddr, Nat.add_comm i 8]

/-! TICK, R160. -/

/-- The bits of a frame word, most significant first, are those of its three bytes in transmission order. -/
theorem frameBits_append (sel high low : Byte) :
    (List.range 24).map (fun j => (sel ++ high ++ low).getLsbD (23 - j)) =
      [7, 6, 5, 4, 3, 2, 1, 0].map sel.getLsbD ++ [7, 6, 5, 4, 3, 2, 1, 0].map high.getLsbD ++
        [7, 6, 5, 4, 3, 2, 1, 0].map low.getLsbD := by
  simp only [BitVec.getLsbD_append]
  simp [List.range_succ]

/-- The pin writes of a frame are those of its three bytes and a latch pulse. -/
theorem frameTrace_append (sel high low : Byte) :
    frameTrace (sel ++ high ++ low) = byteCells sel ++ byteCells high ++ byteCells low ++ latchPulse := by
  have hcells := congrArg (List.flatMap bitCell) (frameBits_append sel high low)
  simp only [List.flatMap_append, List.flatMap_map] at hcells
  rw [frameTrace, hcells]
  rfl

/-- All that the body of a tick does when CLOCK and LATCH are low. -/
theorem tickBody_of_low (s : State) (hc : s.pins.clock = false) (hl : s.pins.latch = false) :
    tickBody s =
      { s with
        cur := advance s.cur
        shadow := frame s.grid (advance s.cur) s.cfg.layerMaskBase
        latched := frame s.grid (advance s.cur) s.cfg.layerMaskBase
        pins := ⟨(columnsLow s.grid (advance s.cur).layer (advance s.cur).subStep).getLsbD 0, false, false⟩
        trace := s.trace ++ frameTrace (frame s.grid (advance s.cur) s.cfg.layerMaskBase) } := by
  rw [tickBody, emitFrame_of_low _ _ _ (s.setCur (advance s.cur)) hc hl, frame, frameTrace_append]
  simp only [State.setCur, List.append_assoc]

/-- TICK performs its body when the wiring is a documented one (10_state.md R31). -/
theorem exec_tick_of_baseLegal (s : State) (h : baseLegal s.cfg.layerMaskBase = true) :
    exec .tick s = .next (tickBody s) := if_pos h

/-- Settles O36: under a documented wiring TICK performs its body, and `tickBody_of_low` says what that does. -/
theorem tickEffect : Obligations.TickEffect := by
  intro s hclock hlatch hbase
  rw [exec_tick_of_baseLegal s hbase, tickBody_of_low s hclock hlatch]

/-! ADVANCE, R161. -/

/-- The flat cursor as a number (10_state.md R25). -/
theorem Cursor.pc_toNat (c : Cursor) : c.pc.toNat = 16 * c.layer.toNat + c.subStep.toNat := by
  rw [Cursor.pc, BitVec.toNat_append, ← Nat.shiftLeft_add_eq_or_of_lt c.subStep.isLt, Nat.shiftLeft_eq]
  omega

/-- Below sub-step 15 only the sub-step advances. -/
theorem advance_of_ne (c : Cursor) (h : c.subStep ≠ 15) : advance c = ⟨c.layer, c.subStep + 1⟩ := by
  have hne : ¬ c.subStep.toNat + 1 = 16 := by bv_omega
  rw [advance, if_neg hne, BitVec.ofNat_add, BitVec.ofNat_toNat, BitVec.setWidth_eq]
  rfl

/-- At sub-step 15 the sub-step starts over and the layer advances modulo 4. -/
theorem advance_of_eq (c : Cursor) (h : c.subStep = 15) : advance c = ⟨c.layer + 1, 0⟩ := by
  have heq : c.subStep.toNat + 1 = 16 := by rw [h]; rfl
  rw [advance, if_pos heq]
  split_ifs with hlast
  · have hwrap : c.layer + 1 = 0 := by bv_omega
    rw [hwrap]
  · rw [BitVec.ofNat_add, BitVec.ofNat_toNat, BitVec.setWidth_eq]
    rfl

/-- ADVANCE adds one to the flat cursor in 6 bits: the carry out of the sub-step is what advances the layer. -/
theorem advance_pc (c : Cursor) : (advance c).pc = c.pc + 1 := by
  apply BitVec.eq_of_toNat_eq
  rw [BitVec.toNat_add, Cursor.pc_toNat, Cursor.pc_toNat]
  by_cases h : c.subStep = 15
  · rw [advance_of_eq c h]
    bv_omega
  · rw [advance_of_ne c h]
    bv_omega

/-- Settles O31, from the number of the flat cursor and the two cases of ADVANCE. -/
theorem advanceIncrementsTheFlatCursor : Obligations.AdvanceIncrementsTheFlatCursor :=
  fun c => ⟨advance_pc c, c.pc_toNat, advance_of_ne c, advance_of_eq c⟩

/-! LAYERSEL, R162. -/

/-- A documented base has one bit set, the one at `LAYER_BIT0` (10_state.md R31). -/
theorem eq_twoPow_layerBit0 (base : Byte) (h : baseLegal base = true) : base = BitVec.twoPow 8 (layerBit0 base) := by
  simp only [baseLegal, Bool.or_eq_true, beq_iff_eq] at h
  obtain rfl | rfl := h
  · rfl
  · rfl

/-- From a base with one bit set, the layer byte is 0 in that bit moved up by the layer, and 1 in every other. -/
theorem layerSel_twoPow_getLsbD (layer : BitVec 2) (k i : Nat) (hi : i < 8) :
    (layerSel layer (BitVec.twoPow 8 k)).getLsbD i = decide (i ≠ k + layer.toNat) := by
  have hmask : (0xFF : Byte) = BitVec.allOnes 8 := rfl
  have hbit : (BitVec.twoPow 8 k <<< layer.toNat).getLsbD i = decide (i = k + layer.toNat) := by
    rw [Bool.eq_iff_iff, BitVec.getLsbD_shiftLeft, BitVec.getLsbD_twoPow]
    simp only [Bool.and_eq_true, Bool.not_eq_true', decide_eq_true_eq, decide_eq_false_iff_not]
    omega
  rw [layerSel, hmask, BitVec.allOnes_and, BitVec.getLsbD_not, hbit]
  simp [hi]

/-- Settles O32: a documented base has one bit set, so its layer bytes are one-cold; the eight values are computed. -/
theorem layerSelIsOneCold : Obligations.LayerSelIsOneCold := by
  refine ⟨?bits, by decide, by decide⟩
  case bits =>
    intro layer base hbase i hi
    have hsel := layerSel_twoPow_getLsbD layer (layerBit0 base) i hi
    rwa [← eq_twoPow_layerBit0 base hbase] at hsel

end Sys2Proof.Machine
end

section
/-! SUPPORT. The decoder (30_encoding.md sections 2 and 3): what each format decodes to, and that it undoes `encode`. -/

namespace Sys2Proof

/-! Slices, 00_scope.md R13. -/

/-- A slice fits its field. -/
theorem slice_lt (v hi lo : Nat) : slice v hi lo < 2 ^ (hi + 1 - lo) := Nat.mod_lt _ (Nat.two_pow_pos _)

/-! One equation per format, for a word the interface can carry (R81, R84, R85). -/

theorem decode_req (w : Nat) (h : w < 0x20000) : decode ⟨.req, w⟩ = .ok (decodeReq w) := if_pos h

theorem decode_portR (w : Nat) (h : w < 0x40) : decode ⟨.portR, w⟩ = .ok (.get (slice w 5 4) (slice w 3 0)) := if_pos h

theorem decode_bit (w : Nat) (h : w < 2) : decode ⟨.bit, w⟩ = .ok (.shiftbit (slice w 0 0 == 1)) := if_pos h

theorem decode_ser (w : Nat) (h : w < 0x200) : decode ⟨.ser, w⟩ = .ok (decodeSer w) := if_pos h

theorem decode_frame (w : Nat) (h : w < 0x1000000) :
    decode ⟨.frame, w⟩ = .ok (.emitframe (BitVec.ofNat 8 (slice w 23 16)) (BitVec.ofNat 8 (slice w 15 8))
      (BitVec.ofNat 8 (slice w 7 0))) := if_pos h

theorem decode_fillArg (w : Nat) (h : w < 0x100) : decode ⟨.fillArg, w⟩ = .ok (.fill (slice w 7 0)) := if_pos h

theorem decode_fillLayerArg (w : Nat) (h : w < 0x400) :
    decode ⟨.fillLayerArg, w⟩ = .ok (.filllayer (slice w 9 8) (slice w 7 0)) := if_pos h

/-- A word wider than its interface is rejected by name (log 12). -/
theorem decode_of_not_wellFormed (r : Request) (h : r.wellFormed = false) :
    decode r = .error (.wordTooWide r.format) := if_neg (of_decide_eq_false h)

/-! Format REQ: which words take which branch of R82. -/

/-- Bit 16 set: RESET, whatever the other bits (R81). -/
theorem decodeReq_reset (w : Nat) (hlo : 0x10000 ≤ w) (hhi : w < 0x20000) : decodeReq w = .reset := by
  have h16 : slice w 16 16 = 1 := by simp [slice]; omega
  rw [decodeReq, if_pos h16]

/-- Bits 15 and 14 set: the reserved request (R89). -/
theorem decodeReq_reserved (w : Nat) (hlo : 0x0C000 ≤ w) (hhi : w < 0x10000) : decodeReq w = .reservedTickAndWe := by
  have h16 : slice w 16 16 ≠ 1 := by simp [slice]; omega
  have h15 : slice w 15 14 = 3 := by simp [slice]; omega
  rw [decodeReq, if_neg h16, if_pos h15]

/-- Bit 15 set and bit 14 clear: TICK. -/
theorem decodeReq_tick (w : Nat) (hlo : 0x08000 ≤ w) (hhi : w < 0x0C000) : decodeReq w = .tick := by
  have h16 : slice w 16 16 ≠ 1 := by simp [slice]; omega
  have h1514 : slice w 15 14 ≠ 3 := by simp [slice]; omega
  have h15 : slice w 15 15 = 1 := by simp [slice]; omega
  rw [decodeReq, if_neg h16, if_neg h1514, if_pos h15]

/-- Bit 15 clear and bit 14 set: SET of the three fields. -/
theorem decodeReq_set (w : Nat) (hlo : 0x04000 ≤ w) (hhi : w < 0x08000) :
    decodeReq w = .set (slice w 13 12) (slice w 11 8) (slice w 7 0) := by
  have h16 : slice w 16 16 ≠ 1 := by simp [slice]; omega
  have h1514 : slice w 15 14 ≠ 3 := by simp [slice]; omega
  have h15 : slice w 15 15 ≠ 1 := by simp [slice]; omega
  have h14 : slice w 14 14 = 1 := by simp [slice]; omega
  rw [decodeReq, if_neg h16, if_neg h1514, if_neg h15, if_pos h14]

/-- No bit above 13 set: IDLE. -/
theorem decodeReq_idle (w : Nat) (hhi : w < 0x04000) : decodeReq w = .idle := by
  have h16 : slice w 16 16 ≠ 1 := by simp [slice]; omega
  have h1514 : slice w 15 14 ≠ 3 := by simp [slice]; omega
  have h15 : slice w 15 15 ≠ 1 := by simp [slice]; omega
  have h14 : slice w 14 14 ≠ 1 := by simp [slice]; omega
  rw [decodeReq, if_neg h16, if_neg h1514, if_neg h15, if_neg h14]

/-- The fields of a SET word are its operands (R88). -/
theorem decode_setWord (l c v : Nat) (hl : l < 4) (hc : c < 16) (hv : v < 256) :
    decode ⟨.req, 0x04000 + 0x1000 * l + 0x100 * c + v⟩ = .ok (.set l c v) := by
  have hlayer : slice (0x04000 + 0x1000 * l + 0x100 * c + v) 13 12 = l := by simp [slice]; omega
  have hcolumn : slice (0x04000 + 0x1000 * l + 0x100 * c + v) 11 8 = c := by simp [slice]; omega
  have hvalue : slice (0x04000 + 0x1000 * l + 0x100 * c + v) 7 0 = v := by simp [slice]; omega
  rw [decode_req _ (by omega), decodeReq_set _ (by omega) (by omega), hlayer, hcolumn, hvalue]

/-- Every word with bit 16 set is RESET. -/
theorem decode_resetWord (w : Nat) (hhi : w < 0x20000) (hlo : 0x10000 ≤ w) : decode ⟨.req, w⟩ = .ok .reset := by
  rw [decode_req w hhi, decodeReq_reset w hlo hhi]

/-- Every word with TICK and WE both 1 and RESET 0 is the reserved request. -/
theorem decode_reservedWord (w : Nat) (hhi : w < 0x10000) (hlo : 0x0C000 ≤ w) :
    decode ⟨.req, w⟩ = .ok .reservedTickAndWe := by
  rw [decode_req w (by omega), decodeReq_reserved w hlo hhi]

/-- Every word with TICK 1 and WE and RESET 0 is TICK. -/
theorem decode_tickWord (w : Nat) (hhi : w < 0x0C000) (hlo : 0x08000 ≤ w) : decode ⟨.req, w⟩ = .ok .tick := by
  rw [decode_req w (by omega), decodeReq_tick w hlo hhi]

/-- Every word with the three control bits 0 is IDLE. -/
theorem decode_idleWord (w : Nat) (hhi : w < 0x04000) : decode ⟨.req, w⟩ = .ok .idle := by
  rw [decode_req w (by omega), decodeReq_idle w hhi]

/-- Settles O2: the five branches of R82 in the order of their words. -/
theorem everyReqWordDecodes : Obligations.EveryReqWordDecodes :=
  ⟨decode_resetWord, decode_reservedWord, decode_tickWord, decode_setWord, decode_idleWord⟩

/-! Format SER. -/

/-- Bit 8 clear: TXBYTE of the low byte. -/
theorem decode_byteWord (b : Byte) : decode ⟨.ser, b.toNat⟩ = .ok (.txbyte b) := by
  have hb := b.isLt
  have h8 : slice b.toNat 8 8 ≠ 1 := by simp [slice]; omega
  have hlow : slice b.toNat 7 0 = b.toNat := by simp [slice]; omega
  rw [decode_ser _ (by omega), decodeSer, if_neg h8, hlow, BitVec.ofNat_toNat, BitVec.setWidth_eq]

/-- Bit 8 set: COMMIT, whatever the other bits. -/
theorem decode_commitWord (w : Nat) (hhi : w < 0x200) (hlo : 0x100 ≤ w) : decode ⟨.ser, w⟩ = .ok .commit := by
  have h8 : slice w 8 8 = 1 := by simp [slice]; omega
  rw [decode_ser w hhi, decodeSer, if_pos h8]

/-- Settles O3: the two branches of `decodeSer`. -/
theorem everySerWordDecodes : Obligations.EverySerWordDecodes := ⟨decode_byteWord, decode_commitWord⟩

/-! The argument records, the read port and the frame interface. -/

/-- The fields of a read address are its operands. -/
theorem decode_getWord (l c : Nat) (hl : l < 4) (hc : c < 16) : decode ⟨.portR, 16 * l + c⟩ = .ok (.get l c) := by
  have hlayer : slice (16 * l + c) 5 4 = l := by simp [slice]; omega
  have hcolumn : slice (16 * l + c) 3 0 = c := by simp [slice]; omega
  rw [decode_portR _ (by omega), hlayer, hcolumn]

/-- The word of FILL is its operand. -/
theorem decode_fillWord (v : Nat) (hv : v < 256) : decode ⟨.fillArg, v⟩ = .ok (.fill v) := by
  have hvalue : slice v 7 0 = v := by simp [slice]; omega
  rw [decode_fillArg v hv, hvalue]

/-- The fields of FILLLAYER's record are its operands. -/
theorem decode_filllayerWord (l v : Nat) (hl : l < 4) (hv : v < 256) :
    decode ⟨.fillLayerArg, 0x100 * l + v⟩ = .ok (.filllayer l v) := by
  have hlayer : slice (0x100 * l + v) 9 8 = l := by simp [slice]; omega
  have hvalue : slice (0x100 * l + v) 7 0 = v := by simp [slice]; omega
  rw [decode_fillLayerArg _ (by omega), hlayer, hvalue]

/-- The three bytes of a frame word are its operands (R85). -/
theorem decode_frameWord (s h l : Byte) :
    decode ⟨.frame, 0x10000 * s.toNat + 0x100 * h.toNat + l.toNat⟩ = .ok (.emitframe s h l) := by
  have hs := s.isLt
  have hh := h.isLt
  have hl := l.isLt
  have htop : slice (0x10000 * s.toNat + 0x100 * h.toNat + l.toNat) 23 16 = s.toNat := by simp [slice]; omega
  have hmid : slice (0x10000 * s.toNat + 0x100 * h.toNat + l.toNat) 15 8 = h.toNat := by simp [slice]; omega
  have hlow : slice (0x10000 * s.toNat + 0x100 * h.toNat + l.toNat) 7 0 = l.toNat := by simp [slice]; omega
  rw [decode_frame _ (by omega), htop, hmid, hlow]
  simp only [BitVec.ofNat_toNat, BitVec.setWidth_eq]

/-- Settles O1: each operation's word is in the range of its own branch, and its fields are the operands. -/
theorem decodeOfEncodeIsTheOperation : Obligations.DecodeOfEncodeIsTheOperation := by
  intro i h
  cases i with
  | reset => rfl
  | reservedTickAndWe => rfl
  | tick => rfl
  | idle => rfl
  | commit => rfl
  | shiftbit b => cases b <;> rfl
  | txbyte b => exact decode_byteWord b
  | emitframe sel high low => exact decode_frameWord sel high low
  | set l c v =>
    simp only [Instr.wellFormed, Bool.and_eq_true, decide_eq_true_eq] at h
    obtain ⟨⟨hl, hc⟩, hv⟩ := h
    exact decode_setWord l c v hl hc hv
  | get l c =>
    simp only [Instr.wellFormed, Bool.and_eq_true, decide_eq_true_eq] at h
    exact decode_getWord l c h.1 h.2
  | fill v => exact decode_fillWord v (of_decide_eq_true h)
  | filllayer l v =>
    simp only [Instr.wellFormed, Bool.and_eq_true, decide_eq_true_eq] at h
    exact decode_filllayerWord l v h.1 h.2

/-! Totality. -/

/-- The operands format REQ decodes to fit their fields. -/
theorem decodeReq_wellFormed (w : Nat) : (decodeReq w).wellFormed = true := by
  unfold decodeReq
  split_ifs
  · rfl
  · rfl
  · rfl
  · simp only [Instr.wellFormed, Bool.and_eq_true, decide_eq_true_eq]
    exact ⟨⟨slice_lt w 13 12, slice_lt w 11 8⟩, slice_lt w 7 0⟩
  · rfl

/-- Format SER has no operand that could be out of range. -/
theorem decodeSer_wellFormed (w : Nat) : (decodeSer w).wellFormed = true := by
  unfold decodeSer
  split_ifs <;> rfl

/-- A word the interface can carry decodes to an operation whose operands fit their fields. -/
theorem decode_of_wellFormed (r : Request) (h : r.wellFormed = true) :
    ∃ i, decode r = .ok i ∧ i.wellFormed = true := by
  obtain ⟨format, w⟩ := r
  have hw := of_decide_eq_true h
  cases format with
  | req => exact ⟨_, decode_req w hw, decodeReq_wellFormed w⟩
  | bit => exact ⟨_, decode_bit w hw, rfl⟩
  | ser => exact ⟨_, decode_ser w hw, decodeSer_wellFormed w⟩
  | frame => exact ⟨_, decode_frame w hw, rfl⟩
  | fillArg => exact ⟨_, decode_fillArg w hw, decide_eq_true (slice_lt w 7 0)⟩
  | portR =>
    refine ⟨_, decode_portR w hw, ?_⟩
    simp only [Instr.wellFormed, Bool.and_eq_true, decide_eq_true_eq]
    exact ⟨slice_lt w 5 4, slice_lt w 3 0⟩
  | fillLayerArg =>
    refine ⟨_, decode_fillLayerArg w hw, ?_⟩
    simp only [Instr.wellFormed, Bool.and_eq_true, decide_eq_true_eq]
    exact ⟨slice_lt w 9 8, slice_lt w 7 0⟩

/-- An operation that was decoded has operands that fit their fields. -/
theorem wellFormed_of_decode {r : Request} {i : Instr} (h : decode r = .ok i) : i.wellFormed = true := by
  cases hr : r.wellFormed with
  | true =>
    obtain ⟨j, hj, hwf⟩ := decode_of_wellFormed r hr
    rw [h] at hj
    cases hj
    exact hwf
  | false =>
    rw [decode_of_not_wellFormed r hr] at h
    cases h

/-- Settles O4: a word that fits decodes format by format, and any other is rejected. -/
theorem decodingIsTotal : Obligations.DecodingIsTotal :=
  fun r => ⟨decode_of_wellFormed r, decode_of_not_wellFormed r⟩

/-- Settles O5: each written-out word falls in the range, or has the fields, of its operation. -/
theorem writtenOutWordsDecode : Obligations.WrittenOutWordsDecode := by
  refine ⟨?set, ?tick, ?reset, ?reserved, ?get, ?txbyte, ?emitframe⟩
  case set => exact decode_setWord 2 5 16 (by decide) (by decide) (by decide)
  case tick => exact decode_tickWord _ (by decide) (by decide)
  case reset => exact decode_resetWord _ (by decide) (by decide)
  case reserved => exact decode_reservedWord _ (by decide) (by decide)
  case get => exact decode_getWord 2 5 (by decide) (by decide)
  case txbyte => exact decode_byteWord 0xB0
  case emitframe => exact decode_frameWord 0xF7 0x00 0x20

end Sys2Proof
end

section
/-! SUPPORT. The serial link as sequences of pin writes (40_serial_link.md): one pin write in full, what sequences of
them leave unchanged, and the operations read as the sequences they perform. -/

namespace Sys2Proof.Machine

/-! One pin write, R110, R114, R115. -/

/-- The shift rule as a number: the stages are doubled modulo 2^24 and DATA is added (R114). -/
theorem shiftIn_eq_ofNat (x : FrameWord) (b : Bool) :
    (x <<< 1) ||| (BitVec.ofBool b).setWidth 24 = BitVec.ofNat 24 (2 * x.toNat + b.toNat) := by
  have hdisjoint : (x <<< 1) &&& (BitVec.ofBool b).setWidth 24 = 0#24 := by
    apply BitVec.eq_of_getLsbD_eq
    intro i _
    by_cases hi : i = 0 <;> simp [hi]
  rw [← BitVec.add_eq_or_of_and_eq_zero _ _ hdisjoint]
  apply BitVec.eq_of_toNat_eq
  cases b <;> simp [Nat.shiftLeft_eq, Nat.mul_comm]

/-- All that a write of CLOCK does: the stages shift exactly when it is a rising edge (R114, R121). -/
theorem pinWrite_clock (b : Bool) (s : State) :
    pinWrite .clock b s =
      { s with pins := { s.pins with clock := b }, trace := s.trace ++ [(.clock, b)],
               shadow := if s.pins.clock = false ∧ b = true
                 then BitVec.ofNat 24 (2 * s.shadow.toNat + s.pins.data.toNat) else s.shadow } := by
  obtain ⟨_, _, ⟨_, clock, _⟩, _⟩ := s
  cases b
  · rw [pinWrite_clock_fall]
    simp
  · cases clock
    · rw [pinWrite_clock_rise _ rfl, shiftIn_eq_ofNat]
      rfl
    · rfl

/-- All that a write of LATCH does: the outputs take the stages exactly when it is a rising edge (R115, R121). -/
theorem pinWrite_latch (b : Bool) (s : State) :
    pinWrite .latch b s =
      { s with pins := { s.pins with latch := b }, trace := s.trace ++ [(.latch, b)],
               latched := if s.pins.latch = false ∧ b = true then s.shadow else s.latched } := by
  obtain ⟨_, _, ⟨_, _, latch⟩, _⟩ := s
  cases b
  · rw [pinWrite_latch_fall]
    simp
  · cases latch <;> rfl

/-- Settles O6: a write of DATA never moves the chain, and `pinWrite_clock` and `pinWrite_latch` say what the other two
do. -/
theorem pinWriteEffect : Obligations.PinWriteEffect := by
  intro x b s
  cases x with
  | data =>
    rw [pinWrite_data]
    exact ⟨rfl, rfl, fun y hy => by cases y <;> trivial, by simp, by simp, rfl⟩
  | clock =>
    rw [pinWrite_clock]
    exact ⟨rfl, rfl, fun y hy => by cases y <;> trivial, by simp, by simp, rfl⟩
  | latch =>
    rw [pinWrite_latch]
    exact ⟨rfl, rfl, fun y hy => by cases y <;> trivial, by simp, by simp, rfl⟩

/-! The operations, R111 to R116. -/

theorem exec_shiftbit (b : Bool) (s : State) : exec (.shiftbit b) s = .next (shiftBit b s) := rfl

theorem exec_commit (s : State) : exec .commit s = .next (commitFrame s) := rfl

theorem exec_emitframe (sel high low : Byte) (s : State) :
    exec (.emitframe sel high low) s = .next (emitFrame sel high low s) := rfl

/-- Settles O7: the clock pulse of a bit cell is a rising edge exactly when CLOCK was low. -/
theorem shiftbitEffect : Obligations.ShiftbitEffect := by
  intro b s
  rw [exec_shiftbit, shiftBit, pinWrite_clock_fall, pinWrite_clock, pinWrite_data]
  cases s.pins.clock <;> simp

/-- Settles O9: the pulse is a rising edge exactly when LATCH was low. -/
theorem commitEffect : Obligations.CommitEffect := by
  intro s
  rw [exec_commit, commitFrame, pinWrite_latch_fall, pinWrite_latch]
  cases s.pins.latch <;> simp

/-- Settles O10: COMMIT leaves SHADOW alone, so the second one copies the same stages. -/
theorem commitTwiceIsCommitOnce : Obligations.CommitTwiceIsCommitOnce := by
  intro s h
  refine ⟨commitFrame s, commitFrame (commitFrame s), rfl, rfl, ?_⟩
  rw [commitFrame_of_latch_low _ (commitFrame_latch s), commitFrame_of_latch_low s h]
  exact ⟨rfl, rfl⟩

/-- Settles O11: the state is the one `emitFrame_of_low` gives, its trace read as that of one frame. -/
theorem emitframeEffect : Obligations.EmitframeEffect := by
  intro sel high low s hclock hlatch
  rw [exec_emitframe, emitFrame_of_low sel high low s hclock hlatch, frameTrace_append]
  simp only [List.append_assoc]

/-- Settles O13: each TXBYTE moves the sixteen nearest stages up, so the third one leaves nothing of the old ones. -/
theorem threeBytesPlaceTheFrame : Obligations.ThreeBytesPlaceTheFrame := by
  intro b1 b2 b3 s hclock
  refine ⟨txByte b3 (txByte b2 (txByte b1 s)), rfl, ?_⟩
  rw [txByte_of_clock_low b1 s hclock, txByte_of_clock_low b2 _ rfl, txByte_of_clock_low b3 _ rfl]
  exact ⟨three_bytes s.shadow b1 b2 b3, rfl⟩

/-! Sequences of pin writes. -/

theorem applyPinWrites_cons (w : PinWrite) (ws : List PinWrite) (s : State) :
    applyPinWrites (w :: ws) s = applyPinWrites ws (pinWrite w.1 w.2 s) := rfl

theorem applyPinWrites_append (ws ws' : List PinWrite) (s : State) :
    applyPinWrites (ws ++ ws') s = applyPinWrites ws' (applyPinWrites ws s) := List.foldl_append

/-- Every pin write is appended to the trace, in order. -/
theorem applyPinWrites_trace (ws : List PinWrite) (s : State) : (applyPinWrites ws s).trace = s.trace ++ ws := by
  induction ws generalizing s with
  | nil => exact (List.append_nil _).symm
  | cons w ws ih =>
    rw [applyPinWrites_cons, ih, (pinWriteEffect w.1 w.2 s).1, List.append_assoc]
    rfl

/-- A write to another pin than LATCH leaves LATCH and the outputs alone. -/
theorem pinWrite_keeps_latch (x : Pin) (b : Bool) (s : State) (h : x ≠ .latch) :
    (pinWrite x b s).pins.latch = s.pins.latch ∧ (pinWrite x b s).latched = s.latched := by
  cases x with
  | data => exact ⟨rfl, rfl⟩
  | clock => rw [pinWrite_clock]; exact ⟨rfl, rfl⟩
  | latch => exact absurd rfl h

/-- Writes that do not go to LATCH leave LATCH and the outputs alone. -/
theorem applyPinWrites_keeps_latch (ws : List PinWrite) (s : State) (h : ∀ w ∈ ws, w.1 ≠ .latch) :
    (applyPinWrites ws s).pins.latch = s.pins.latch ∧ (applyPinWrites ws s).latched = s.latched := by
  induction ws generalizing s with
  | nil => exact ⟨rfl, rfl⟩
  | cons w ws ih =>
    obtain ⟨hpin, hout⟩ := pinWrite_keeps_latch w.1 w.2 s (h w List.mem_cons_self)
    rw [applyPinWrites_cons, ← hpin, ← hout]
    exact ih _ (fun x hx => h x (List.mem_cons_of_mem w hx))

/-- A bit cell writes DATA and CLOCK only. -/
theorem ne_latch_of_mem_bitCells {α : Type} (bit : α → Bool) (xs : List α) :
    ∀ w ∈ xs.flatMap (fun x => bitCell (bit x)), w.1 ≠ .latch := by
  intro w hw
  obtain ⟨x, -, hcell⟩ := List.mem_flatMap.1 hw
  simp only [bitCell, List.mem_cons, List.not_mem_nil, or_false] at hcell
  obtain rfl | rfl | rfl := hcell <;> exact Pin.noConfusion

/-! The operations as sequences of pin writes, R93. -/

theorem shiftBit_eq_applyPinWrites (b : Bool) (s : State) : shiftBit b s = applyPinWrites (bitCell b) s := rfl

theorem commitFrame_eq_applyPinWrites (s : State) : commitFrame s = applyPinWrites latchPulse s := rfl

/-- A byte is its eight cells performed one after another. -/
theorem txByte_eq_applyPinWrites (b : Byte) (s : State) : txByte b s = applyPinWrites (byteCells b) s := rfl

/-- A frame is its 74 pin writes performed one after another. -/
theorem emitFrame_eq_applyPinWrites (sel high low : Byte) (s : State) :
    emitFrame sel high low s = applyPinWrites (frameTrace (sel ++ high ++ low)) s := by
  simp only [emitFrame, frameTrace_append, applyPinWrites_append, txByte_eq_applyPinWrites,
    commitFrame_eq_applyPinWrites]

/-- A frame appends its pin writes to the trace, whatever the pins hold. -/
theorem emitFrame_trace (sel high low : Byte) (s : State) :
    (emitFrame sel high low s).trace = s.trace ++ frameTrace (sel ++ high ++ low) := by
  rw [emitFrame_eq_applyPinWrites, applyPinWrites_trace]

/-- The 72 pin writes of a frame's bit cells. -/
def frameCells (f : FrameWord) : List PinWrite := (List.range 24).flatMap (fun j => bitCell (f.getLsbD (23 - j)))

theorem frameTrace_eq (f : FrameWord) : frameTrace f = frameCells f ++ latchPulse := rfl

theorem frameCells_length (f : FrameWord) : (frameCells f).length = 72 :=
  length_flatMap_bitCell (fun j => f.getLsbD (23 - j)) (List.range 24)

/-- During the bit cells of a frame the outputs keep their word. -/
theorem latched_during_frameCells (f : FrameWord) (s : State) (k : Nat) (hk : k ≤ 72) :
    (applyPinWrites ((frameTrace f).take k) s).latched = s.latched := by
  have htake : (frameTrace f).take k = (frameCells f).take k :=
    List.take_append_of_le_length (hk.trans (frameCells_length f).ge)
  rw [htake]
  refine (applyPinWrites_keeps_latch _ _ fun w hw => ?_).2
  exact ne_latch_of_mem_bitCells _ _ w (List.mem_of_mem_take hw)

/-- The last pin write of a frame is the fall of LATCH, which the outputs do not see. -/
theorem latched_before_last_write (f : FrameWord) (s : State) :
    (applyPinWrites ((frameTrace f).take 73) s).latched = (applyPinWrites (frameTrace f) s).latched := by
  have hlast : frameTrace f = (frameTrace f).take 73 ++ [(.latch, false)] := by
    rw [frameTrace_eq, List.take_append, frameCells_length, List.take_of_length_le (by rw [frameCells_length]; decide),
      List.append_assoc]
    rfl
  rw [congrArg (applyPinWrites · s) hlast, applyPinWrites_append, applyPinWrites_cons, pinWrite_latch_fall]
  rfl

/-- Settles O12: no bit cell writes LATCH, its rise is the 73rd write and its fall the 74th. -/
theorem outputsChangeOnceInAFrame : Obligations.OutputsChangeOnceInAFrame := by
  intro sel high low s hclock hlatch
  have hframe : (applyPinWrites (frameTrace (sel ++ high ++ low)) s).latched = sel ++ high ++ low := by
    rw [← emitFrame_eq_applyPinWrites, emitFrame_of_low sel high low s hclock hlatch]
  have hlength : (frameTrace (sel ++ high ++ low)).length = 74 := by
    rw [frameTrace_eq, List.length_append, frameCells_length]
    rfl
  refine ⟨emitFrame_eq_applyPinWrites sel high low s, hlength, fun k hk => ?_⟩
  split_ifs with h72
  · exact latched_during_frameCells _ s k h72
  · obtain rfl | rfl : k = 73 ∨ k = 74 := by omega
    · rw [latched_before_last_write, hframe]
    · rw [List.take_of_length_le hlength.le, hframe]

/-! Bits sent one at a time, R118. -/

/-- A shift moves every stage one up and takes the bit into stage 0. -/
theorem shiftIn_getLsbD (x : FrameWord) (b : Bool) (j : Nat) (hj : j < 24) :
    ((x <<< 1) ||| (BitVec.ofBool b).setWidth 24).getLsbD j = if j = 0 then b else x.getLsbD (j - 1) := by
  cases j with
  | zero => simp
  | succ j => simp [hj, BitVec.getLsbD_eq_getElem (Nat.lt_of_succ_lt hj)]

/-- Sending bits one at a time completes, and stage `j` ends with the `j`-th last bit sent, or with what stood as many
stages below it as bits were sent. -/
theorem runInstrs_shiftbits (bits : List Bool) (rest : List Instr) (s : State) (hclock : s.pins.clock = false) :
    ∃ t, runInstrs (bits.map .shiftbit ++ rest) s = runInstrs rest t ∧ t.pins.latch = s.pins.latch ∧
      ∀ j, j < 24 → t.shadow.getLsbD j =
        if j < bits.length then bits.reverse.getD j false else s.shadow.getLsbD (j - bits.length) := by
  induction bits generalizing s with
  | nil => exact ⟨s, rfl, rfl, fun j _ => rfl⟩
  | cons b bits ih =>
    obtain ⟨t, hrun, hlatch, hbits⟩ := ih (shiftBit b s) (shiftBit_clock b s)
    have hcell := shiftBit_of_clock_low b s hclock
    refine ⟨t, hrun, by rw [hlatch, hcell], fun j hj => ?_⟩
    have hstage : (shiftBit b s).shadow.getLsbD (j - bits.length) =
        if j - bits.length = 0 then b else s.shadow.getLsbD (j - bits.length - 1) := by
      rw [hcell, shiftIn_getLsbD _ _ _ (by omega)]
    rw [hbits j hj, hstage, List.length_cons, List.reverse_cons]
    obtain hlt | heq | hgt := Nat.lt_trichotomy j bits.length
    · rw [if_pos hlt, if_pos (by omega), List.getD_append _ _ _ _ (by simpa using hlt)]
    · rw [if_neg (by omega), if_pos (by omega), if_pos (by omega),
        List.getD_append_right _ _ _ _ (by simp [heq])]
      simp [heq]
    · rw [if_neg (by omega), if_neg (by omega), if_neg (by omega)]
      congr 1

/-- Settles O14: the bits are where `runInstrs_shiftbits` puts them, and COMMIT copies the stages. -/
theorem misplacedCommitLatchesTheLastBits : Obligations.MisplacedCommitLatchesTheLastBits := by
  intro bits s hclock hlatch
  obtain ⟨t, hrun, hkept, hbits⟩ := runInstrs_shiftbits bits [.commit] s hclock
  have hcommit := commitFrame_of_latch_low t (hkept.trans hlatch)
  refine ⟨commitFrame t, hrun, fun j hj => ?_, ?_⟩
  · rw [hcommit]
    exact hbits j hj
  · rw [hcommit]

/-! The chain of the other edge, R122. -/

theorem applyPinWritesFalling_append (ws ws' : List PinWrite) (s : State) :
    applyPinWritesFalling (ws ++ ws') s = applyPinWritesFalling ws' (applyPinWritesFalling ws s) := List.foldl_append

/-- Over a bit cell that begins with CLOCK low, the falling edge shifts in the same DATA as the rising edge. -/
theorem bitCell_falling_eq (b : Bool) (s : State) (h : s.pins.clock = false) :
    applyPinWritesFalling (bitCell b) s = applyPinWrites (bitCell b) s := by
  obtain ⟨_, _, ⟨_, _, _⟩, _⟩ := s
  cases h
  rfl

/-- Over a latch pulse that begins with LATCH low, the falling edge copies the same stages as the rising edge. -/
theorem latchPulse_falling_eq (s : State) (h : s.pins.latch = false) :
    applyPinWritesFalling latchPulse s = applyPinWrites latchPulse s := by
  obtain ⟨_, _, ⟨_, _, _⟩, _⟩ := s
  cases h
  rfl

/-- The two chains agree over any run of bit cells, since each cell leaves CLOCK low for the next. -/
theorem bitCells_falling_eq {α : Type} (bit : α → Bool) (xs : List α) (s : State) (h : s.pins.clock = false) :
    applyPinWritesFalling (xs.flatMap fun x => bitCell (bit x)) s =
      applyPinWrites (xs.flatMap fun x => bitCell (bit x)) s := by
  induction xs generalizing s with
  | nil => rfl
  | cons x xs ih =>
    rw [List.flatMap_cons, applyPinWritesFalling_append, applyPinWrites_append, bitCell_falling_eq _ _ h,
      ← shiftBit_eq_applyPinWrites, ih _ (shiftBit_clock _ _)]

/-- Settles O15: a frame is bit cells and a latch pulse, and the cells leave LATCH as it was. -/
theorem activeEdgeIsNotSeen : Obligations.ActiveEdgeIsNotSeen := by
  intro s
  refine ⟨fun hclock b => bitCell_falling_eq b s hclock, latchPulse_falling_eq s, fun hclock hlatch f => ?_⟩
  have hcells := ne_latch_of_mem_bitCells (fun j => f.getLsbD (23 - j)) (List.range 24)
  obtain ⟨hkept, -⟩ := applyPinWrites_keeps_latch _ s hcells
  rw [frameTrace, applyPinWritesFalling_append, applyPinWrites_append, bitCells_falling_eq _ _ _ hclock,
    latchPulse_falling_eq _ (hkept.trans hlatch)]

/-! How many writes, and how many changes of level. -/

theorem writesTo_append (x : Pin) (ws ws' : List PinWrite) :
    writesTo x (ws ++ ws') = writesTo x ws + writesTo x ws' := List.countP_append

/-- Every bit cell writes a pin as often as any other bit cell does. -/
theorem writesTo_bitCells {α : Type} (x : Pin) (bit : α → Bool) (xs : List α) :
    writesTo x (xs.flatMap fun y => bitCell (bit y)) = xs.length * writesTo x (bitCell false) := by
  have hcell (b : Bool) : writesTo x (bitCell b) = writesTo x (bitCell false) := by cases x <;> rfl
  induction xs with
  | nil => exact (Nat.zero_mul _).symm
  | cons y ys ih => rw [List.flatMap_cons, writesTo_append, ih, hcell, List.length_cons, Nat.succ_mul, Nat.add_comm]

/-- A byte writes each pin eight times as often as a bit cell. -/
theorem writesTo_byteCells (x : Pin) (b : Byte) : writesTo x (byteCells b) = 8 * writesTo x (bitCell false) :=
  writesTo_bitCells x b.getLsbD _

/-- A frame writes each pin 24 times as often as a bit cell, and LATCH twice more. -/
theorem writesTo_frameTrace (x : Pin) (f : FrameWord) :
    writesTo x (frameTrace f) = 24 * writesTo x (bitCell false) + writesTo x latchPulse := by
  rw [frameTrace, writesTo_append, writesTo_bitCells]
  rfl

/-- Settles O16: each operation is a sequence of pin writes, which it appends to the trace, and the writes of a sequence
do not depend on its data. -/
theorem pinWriteCountsAreFixed : Obligations.PinWriteCountsAreFixed := by
  refine ⟨fun b s => ?shiftbit, fun b s => ?txbyte, fun s => ?commit, fun sel high low s => ?frame,
    fun s hbase => ?tick⟩
  case shiftbit => exact ⟨shiftBit b s, bitCell b, rfl, applyPinWrites_trace (bitCell b) s, rfl, rfl, rfl⟩
  case txbyte =>
    exact ⟨txByte b s, byteCells b, rfl, applyPinWrites_trace (byteCells b) s, writesTo_byteCells _ b,
      writesTo_byteCells _ b, writesTo_byteCells _ b⟩
  case commit => exact ⟨commitFrame s, latchPulse, rfl, applyPinWrites_trace latchPulse s, rfl, rfl, rfl⟩
  case frame =>
    exact ⟨emitFrame sel high low s, _, rfl, emitFrame_trace sel high low s, writesTo_frameTrace _ _,
      writesTo_frameTrace _ _, writesTo_frameTrace _ _⟩
  case tick =>
    exact ⟨tickBody s, _, exec_tick_of_baseLegal s hbase, emitFrame_trace _ _ _ (s.setCur (advance s.cur)),
      writesTo_frameTrace _ _, writesTo_frameTrace _ _, writesTo_frameTrace _ _⟩

/-- A bit cell that begins with CLOCK low changes CLOCK twice, and DATA when its bit differs from the level before. -/
theorem levelChanges_bitCell_append (b : Bool) (ws : List PinWrite) (p : Pins) (h : p.clock = false) :
    levelChanges p (bitCell b ++ ws) = (if p.data == b then 0 else 1) + 2 + levelChanges ⟨b, false, p.latch⟩ ws := by
  obtain ⟨_, _, _⟩ := p
  cases h
  simp only [bitCell, List.cons_append, List.nil_append, levelChanges, Pins.level]
  simp
  omega

/-- A frame's bit cells change a level two or three times each, and its pulse twice. -/
theorem levelChanges_bitCells_pulse {α : Type} (bit : α → Bool) (xs : List α) (p : Pins) (hclock : p.clock = false)
    (hlatch : p.latch = false) :
    2 * xs.length + 2 ≤ levelChanges p (xs.flatMap (fun x => bitCell (bit x)) ++ latchPulse) ∧
      levelChanges p (xs.flatMap (fun x => bitCell (bit x)) ++ latchPulse) ≤ 3 * xs.length + 2 := by
  induction xs generalizing p with
  | nil =>
    have hpulse : levelChanges p latchPulse = 2 := by simp [latchPulse, levelChanges, Pins.level, hlatch]
    exact ⟨hpulse.ge, hpulse.le⟩
  | cons x xs ih =>
    obtain ⟨hlo, hhi⟩ := ih ⟨bit x, false, p.latch⟩ rfl hlatch
    rw [List.flatMap_cons, List.append_assoc, levelChanges_bitCell_append _ _ _ hclock, List.length_cons]
    split_ifs <;> omega

/-- Settles O17: 24 bit cells and a pulse. -/
theorem frameChangesFiftyToSeventyFourLevels : Obligations.FrameChangesFiftyToSeventyFourLevels :=
  fun f _ hclock hlatch =>
    levelChanges_bitCells_pulse (fun j => f.getLsbD (23 - j)) (List.range 24) _ hclock hlatch

end Sys2Proof.Machine
end

section
/-! SUPPORT. The voxel grid's operations (41_voxel_grid.md): when each completes and what it does, the cells after a
sequence of SETs, and the canonical form. -/

namespace Sys2Proof.Machine

/-! The checks, R143 and R146. -/

/-- A check that finds a violation raises it. -/
theorem unlessViolated_some (cause : ContractCause) (go : Host.Outcome State Fault Refusal) :
    unlessViolated (some cause) go = .fault (.contractViolation cause) := rfl

/-- A check that finds nothing goes on. -/
theorem unlessViolated_none (go : Host.Outcome State Fault Refusal) : unlessViolated none go = go := rfl

/-- The index check on a pair outside the grid. -/
theorem indexViolation_of_out (l c : Nat) (h : 3 < l ∨ 15 < c) :
    indexViolation l (some c) = some (.outOfRangeIndex l (some c)) := if_pos h

/-- The index check of FILLLAYER, which names no column. -/
theorem indexViolation_of_layer_out (l : Nat) (h : 3 < l) :
    indexViolation l none = some (.outOfRangeIndex l none) := if_pos (.inl h)

/-- The index check on a pair of the grid. -/
theorem indexViolation_of_in (l c : Nat) (hl : l < 4) (hc : c < 16) : indexViolation l (some c) = none :=
  (indexViolation_eq_none l (some c)).2 ⟨Nat.le_of_lt_succ hl, Nat.le_of_lt_succ hc⟩

/-- The index check of FILLLAYER on a layer of the grid. -/
theorem indexViolation_of_layer_in (l : Nat) (hl : l < 4) : indexViolation l none = none :=
  (indexViolation_eq_none l none).2 ⟨Nat.le_of_lt_succ hl, Nat.zero_le _⟩

/-- The brightness check on a value no cell can hold. -/
theorem brightnessViolation_of_gt (v : Nat) (h : 255 < v) : brightnessViolation v = some (.brightnessTooWide v) :=
  if_pos h

/-- The brightness check on a value of a cell. -/
theorem brightnessViolation_of_lt (v : Nat) (h : v < 256) : brightnessViolation v = none :=
  (brightnessViolation_eq_none v).2 (Nat.le_of_lt_succ h)

/-! The meanings `exec` gives the four operations, as checks before an effect (60_exceptions.md R219). -/

theorem exec_set_eq (l c v : Nat) (s : State) :
    exec (.set l c v) s = unlessViolated ((indexViolation l (some c)).or (brightnessViolation v))
      (.next (s.writeCell (cellAddr l c) (BitVec.ofNat 8 v))) := rfl

theorem exec_get_eq (l c : Nat) (s : State) :
    exec (.get l c) s = unlessViolated (indexViolation l (some c))
      (.next (s.setResults (s.results ++ [s.readCell (cellAddr l c)]))) := rfl

theorem exec_fill_eq (v : Nat) (s : State) :
    exec (.fill v) s = unlessViolated (brightnessViolation v)
      (if isOrderOf 64 s.cfg.fillOrderAll then .next (queueSets s.cfg.fillOrderAll v s)
       else .refused .illegalConfig) := rfl

theorem exec_filllayer_eq (l v : Nat) (s : State) :
    exec (.filllayer l v) s = unlessViolated ((indexViolation l none).or (brightnessViolation v))
      (if isOrderOf 16 s.cfg.fillOrderLayer then .next (queueSets (s.cfg.fillOrderLayer.map (cellAddr l)) v s)
       else .refused .illegalConfig) := rfl

/-! When the operations complete, and what they then do. -/

/-- SET on a cell of the grid stores the value (R141). -/
theorem exec_set (l c v : Nat) (s : State) (hl : l < 4) (hc : c < 16) (hv : v < 256) :
    exec (.set l c v) s = .next (s.writeCell (cellAddr l c) (BitVec.ofNat 8 v)) := by
  rw [exec_set_eq, indexViolation_of_in l c hl hc, brightnessViolation_of_lt v hv, Option.none_or, unlessViolated_none]

/-- GET on a cell of the grid appends what the cell holds to the results (R142). -/
theorem exec_get (l c : Nat) (s : State) (hl : l < 4) (hc : c < 16) :
    exec (.get l c) s = .next (s.setResults (s.results ++ [s.readCell (cellAddr l c)])) := by
  rw [exec_get_eq, indexViolation_of_in l c hl hc, unlessViolated_none]

/-- FILL of a value of a cell owes its SETs, when the configured order is a permutation (R144). -/
theorem exec_fill (v : Nat) (s : State) (hv : v < 256) :
    exec (.fill v) s =
      if isOrderOf 64 s.cfg.fillOrderAll then .next (queueSets s.cfg.fillOrderAll v s) else .refused .illegalConfig := by
  rw [exec_fill_eq, brightnessViolation_of_lt v hv, unlessViolated_none]

/-- FILLLAYER of a layer of the grid owes its SETs, when the configured order is a permutation (R145). -/
theorem exec_filllayer (l v : Nat) (s : State) (hl : l < 4) (hv : v < 256) :
    exec (.filllayer l v) s =
      if isOrderOf 16 s.cfg.fillOrderLayer then .next (queueSets (s.cfg.fillOrderLayer.map (cellAddr l)) v s)
      else .refused .illegalConfig := by
  rw [exec_filllayer_eq, indexViolation_of_layer_in l hl, brightnessViolation_of_lt v hv, Option.none_or,
    unlessViolated_none]

/-- Settles O21: the index check comes first, so it decides whatever the brightness. -/
theorem outOfRangeIndexIsRaised : Obligations.OutOfRangeIndexIsRaised := by
  intro l c v s
  refine ⟨fun h => ⟨?set, ?get⟩, fun h => ?filllayer⟩
  case set =>
    rw [exec_set_eq, indexViolation_of_out l c h, Option.some_or, unlessViolated_some]
  case get =>
    rw [exec_get_eq, indexViolation_of_out l c h, unlessViolated_some]
  case filllayer =>
    rw [exec_filllayer_eq, indexViolation_of_layer_out l h, Option.some_or, unlessViolated_some]

/-- Settles O22: with the index in range the brightness check decides. -/
theorem brightnessTooWideIsRaised : Obligations.BrightnessTooWideIsRaised := by
  intro l c v s hv
  refine ⟨fun hl hc => ?set, fun hl => ?filllayer, ?fill⟩
  case set =>
    rw [exec_set_eq, indexViolation_of_in l c hl hc, brightnessViolation_of_gt v hv, Option.none_or, unlessViolated_some]
  case filllayer =>
    rw [exec_filllayer_eq, indexViolation_of_layer_in l hl, brightnessViolation_of_gt v hv, Option.none_or,
      unlessViolated_some]
  case fill =>
    rw [exec_fill_eq, brightnessViolation_of_gt v hv, unlessViolated_some]

/-! One cell written. -/

/-- What every cell reads after one of a canonical grid was stored. -/
theorem readCell_writeCell (s : State) (a a' : Nat) (v : Byte) (h : gridWf s.grid = true) :
    (s.writeCell a v).readCell a' = if a' = a then v else s.readCell a' := by
  split_ifs with ha
  · rw [ha]
    exact gridRead_gridWrite_self s.grid a v h
  · exact gridRead_gridWrite_of_ne s.grid v ha

/-- Storing a cell of the grid keeps the canonical form. -/
theorem gridWf_writeCell (s : State) (a : Nat) (v : Byte) (ha : a < 64) (h : gridWf s.grid = true) :
    gridWf (s.writeCell a v).grid = true := gridWf_gridWrite s.grid a v ha h

/-- The flat address of a cell of the grid is below 64. -/
theorem cellAddr_lt (l c : Nat) (hl : l < 4) (hc : c < 16) : cellAddr l c < 64 := by
  unfold cellAddr
  omega

/-- Different cells have different addresses. -/
theorem cellAddr_inj {l c l' c' : Nat} (hc : c < 16) (hc' : c' < 16) :
    cellAddr l' c' = cellAddr l c ↔ l' = l ∧ c' = c := by
  unfold cellAddr
  omega

/-- Settles O18: SET is one `writeCell`, which touches the grid only. -/
theorem setEffect : Obligations.SetEffect := by
  intro l c v s hl hc hv hwf
  refine ⟨_, exec_set l c v s hl hc hv, ?_, fun a ha => ?_, rfl⟩
  · exact (readCell_writeCell s _ _ _ hwf).trans (if_pos rfl)
  · exact (readCell_writeCell s _ _ _ hwf).trans (if_neg ha)

/-- Settles O19: GET is one read, and `setResults` touches the results only. -/
theorem getEffect : Obligations.GetEffect := fun l c s hl hc => exec_get l c s hl hc

/-! Operations one after another. -/

/-- A run goes on from the state its first operation answers. -/
theorem runInstrs_cons {i : Instr} {s t : State} (rest : List Instr) (h : exec i s = .next t) :
    runInstrs (i :: rest) s = runInstrs rest t := by
  rw [runInstrs, h]

/-- Settles O20: the GET reads the grid the SET left. -/
theorem getAfterSet : Obligations.GetAfterSet := by
  intro l c v l' c' s hl hc hv hl' hc' hwf
  have hrun := (runInstrs_cons [.get l' c'] (exec_set l c v s hl hc hv)).trans
    (runInstrs_cons [] (exec_get l' c' _ hl' hc'))
  refine ⟨_, hrun, ?_⟩
  rw [State.setResults_results, readCell_writeCell s _ _ _ hwf]
  simp only [cellAddr_inj hc hc']
  rfl

/-- Settles O28, by induction on the writes: the first of them shows only where no later one names its cell. -/
theorem lastWriteWins : Obligations.LastWriteWins := by
  intro writes
  induction writes with
  | nil => exact fun s _ _ => ⟨s, rfl, fun _ => rfl⟩
  | cons w writes ih =>
    intro s hwf hrange
    obtain ⟨hl, hc, hv⟩ := hrange w List.mem_cons_self
    have hset := exec_set w.1 w.2.1 w.2.2 s hl hc hv
    obtain ⟨t, hrun, hread⟩ := ih (s.writeCell (cellAddr w.1 w.2.1) (BitVec.ofNat 8 w.2.2))
      (gridWf_writeCell s _ _ (cellAddr_lt _ _ hl hc) hwf) (fun x hx => hrange x (List.mem_cons_of_mem w hx))
    refine ⟨t, (runInstrs_cons _ hset).trans hrun, fun a => ?_⟩
    rw [hread a, List.reverse_cons, List.find?_append]
    cases writes.reverse.find? (fun w => 16 * w.1 + w.2.1 == a) with
    | some later => rfl
    | none =>
      by_cases ha : a = 16 * w.1 + w.2.1
      · simp [readCell_writeCell s _ _ _ hwf, cellAddr, ha]
      · simp [readCell_writeCell s _ _ _ hwf, cellAddr, ha, Ne.symm ha]

/-! Canonical grids. -/

/-- A canonical grid that lists a cell does not read as a grid whose cells all lie above that cell. -/
theorem gridRead_head_ne {b : Nat} {w : Byte} {rest h : Grid} (hw : w ≠ cellDefault)
    (hall : h.all (fun c => decide (b < c.1)) = true) : gridRead ((b, w) :: rest) b ≠ gridRead h b := by
  rw [gridRead_of_lt_all h b hall, gridRead, if_pos rfl]
  exact hw

/-- Cells above an address are above every lower one. -/
theorem all_lt_of_lt {a b : Nat} {g : Grid} (hab : a < b) (hall : g.all (fun c => decide (b < c.1)) = true) :
    g.all (fun c => decide (a < c.1)) = true := by
  simp only [List.all_eq_true, decide_eq_true_eq] at hall ⊢
  exact fun c hc => hab.trans (hall c hc)

/-- Settles O30, by induction on both grids: a listed cell reads other than 0, so the first cells are the same, and the
rest of each grid reads 0 there. -/
theorem gridsThatReadAlikeAreEqual : Obligations.GridsThatReadAlikeAreEqual := by
  intro g
  induction g with
  | nil =>
    intro h _ hh hread
    cases h with
    | nil => rfl
    | cons c rest =>
      obtain ⟨-, hw, -, -⟩ := (gridWf_cons c.1 c.2 rest).1 hh
      exact absurd (hread c.1).symm (gridRead_head_ne hw rfl)
  | cons c g ih =>
    obtain ⟨b, w⟩ := c
    intro h hg hh hread
    obtain ⟨-, hw, hall, hwf⟩ := (gridWf_cons b w g).1 hg
    cases h with
    | nil => exact absurd (hread b) (gridRead_head_ne hw rfl)
    | cons c' h =>
      obtain ⟨b', w'⟩ := c'
      obtain ⟨-, hw', hall', hwf'⟩ := (gridWf_cons b' w' h).1 hh
      obtain hlt | rfl | hgt := Nat.lt_trichotomy b b'
      · refine absurd (hread b) (gridRead_head_ne hw ?_)
        rw [List.all_cons, decide_eq_true hlt, all_lt_of_lt hlt hall']
        rfl
      · have hhead : w = w' := by simpa [gridRead] using hread b
        have htail : g = h := by
          refine ih h hwf hwf' fun a => ?_
          by_cases ha : b = a
          · rw [← ha, gridRead_of_lt_all g b hall, gridRead_of_lt_all h b hall']
          · simpa [gridRead, ha] using hread a
        rw [hhead, htail]
      · refine absurd (hread b').symm (gridRead_head_ne hw' ?_)
        rw [List.all_cons, decide_eq_true hgt, all_lt_of_lt hgt hall]
        rfl

end Sys2Proof.Machine
end

section
/-! SUPPORT. One step of the machine (20_memory.md section 6): the request of the next turn, the operation it runs, and
the configurations a step refuses. -/

namespace Sys2Proof.Machine

/-! The request of the next turn (R65, log 9, log 10). -/

theorem nextRequest_preempt {s : State} {r : Request} {rest : List Turn} (h : s.input = .preempt r :: rest) :
    nextRequest s = (r, s.setInput rest) := by
  rw [nextRequest, h]

theorem nextRequest_request {s : State} {r : Request} {rest : List Turn} (h : s.input = .request r :: rest)
    (hnone : s.pending = []) : nextRequest s = (r, s.setInput rest) := by
  rw [nextRequest, h]
  simp only [hnone]

theorem nextRequest_request_waits {s : State} {r r' : Request} {rest : List Turn} {owed : List Request}
    (h : s.input = .request r' :: rest) (howed : s.pending = r :: owed) : nextRequest s = (r, s.setPending owed) := by
  rw [nextRequest, h]
  simp only [howed]

theorem nextRequest_foreground {s : State} {rest : List Turn} (h : s.input = .foreground :: rest) :
    nextRequest s = foregroundTurn (s.setInput rest) := by
  rw [nextRequest, h]

theorem nextRequest_nil {s : State} (h : s.input = []) : nextRequest s = foregroundTurn s := by
  rw [nextRequest, h]

theorem foregroundTurn_owed {s : State} {r : Request} {owed : List Request} (h : s.pending = r :: owed) :
    foregroundTurn s = (r, s.setPending owed) := by
  rw [foregroundTurn, h]

theorem foregroundTurn_nil {s : State} (h : s.pending = []) : foregroundTurn s = (idleRequest, s) := by
  rw [foregroundTurn, h]

/-- The idle request is IDLE (30_encoding.md R83). -/
theorem decode_idleRequest : decode idleRequest = .ok .idle := decode_idleWord 0 (by decide)

/-! The step. -/

/-- With a legal configuration a step runs the operation the next request decodes to. -/
theorem step_of_decode {s : State} {i : Instr} (hcfg : configLegal s.cfg = true)
    (hdec : decode (nextRequest s).1 = .ok i) : step s = exec i (nextRequest s).2 := by
  rw [step, if_pos hcfg, hdec]

/-- The same, where the next request and the state without it are known. -/
theorem step_of_nextRequest {s s' : State} {r : Request} {i : Instr} (hcfg : configLegal s.cfg = true)
    (hnext : nextRequest s = (r, s')) (hdec : decode r = .ok i) : step s = exec i s' := by
  rw [step_of_decode hcfg (by rw [hnext]; exact hdec), hnext]

/-- Any other configuration is refused (log 3). -/
theorem step_of_not_configLegal {s : State} (h : ¬ configLegal s.cfg = true) : step s = .refused .illegalConfig :=
  if_neg h

theorem exec_idle (s : State) : exec .idle s = .next s := rfl

/-- Settles O47. -/
theorem idleChangesNothing : Obligations.IdleChangesNothing := exec_idle

/-- Settles O50: in both cases the turn's request is the next one. -/
theorem stepRunsTheDecodedRequest : Obligations.StepRunsTheDecodedRequest := fun _ _ _ _ hcfg hdec =>
  ⟨fun hin => step_of_nextRequest hcfg (nextRequest_preempt hin) hdec,
    fun hin hnone => step_of_nextRequest hcfg (nextRequest_request hin hnone) hdec⟩

/-- Settles O51: the five cases are those of `nextRequest` in which the foreground presents the request. -/
theorem foregroundTurnRunsTheNextOwedSet : Obligations.ForegroundTurnRunsTheNextOwedSet := by
  intro r i owed rest s hcfg
  refine ⟨fun hin howed hdec => ?foreground, fun hin howed hdec => ?nothingMore, fun r' hin howed hdec => ?waiting,
    fun hin hnone => ?consumed, fun hin hnone => ?unchanged⟩
  case foreground =>
    exact step_of_nextRequest hcfg ((nextRequest_foreground hin).trans (foregroundTurn_owed howed)) hdec
  case nothingMore => exact step_of_nextRequest hcfg ((nextRequest_nil hin).trans (foregroundTurn_owed howed)) hdec
  case waiting => exact step_of_nextRequest hcfg (nextRequest_request_waits hin howed) hdec
  case consumed =>
    exact step_of_nextRequest hcfg ((nextRequest_foreground hin).trans (foregroundTurn_nil hnone)) decode_idleRequest
  case unchanged =>
    exact step_of_nextRequest hcfg ((nextRequest_nil hin).trans (foregroundTurn_nil hnone)) decode_idleRequest

/-- Settles O48: each of the words decodes to the reserved operation, which `exec` refuses. -/
theorem reservedRequestIsRefused : Obligations.ReservedRequestIsRefused := by
  have hexec : ∀ s : State, exec .reservedTickAndWe s = .refused .simultaneousTickAndWrite := fun _ => rfl
  have hstep : ∀ (w : Nat) (s : State), 0x0C000 ≤ w → w < 0x10000 → configLegal s.cfg = true →
      (nextRequest s).1 = ⟨.req, w⟩ → step s = .refused .simultaneousTickAndWrite := fun w s hlo hhi hcfg hnext =>
    (step_of_decode hcfg (by rw [hnext, decode_reservedWord w hhi hlo])).trans (hexec _)
  refine ⟨hexec, hstep, fun w rest s hlo hhi hcfg hturn => hstep w s hlo hhi hcfg ?_⟩
  obtain hin | ⟨hin, hnone⟩ := hturn
  · rw [nextRequest_preempt hin]
  · rw [nextRequest_request hin hnone]

/-! The legal configurations. -/

/-- The two documented wirings (10_state.md R31). -/
theorem baseLegal_iff (base : Byte) : baseLegal base = true ↔ base = 0x02 ∨ base = 0x10 := by
  simp only [baseLegal, Bool.or_eq_true, beq_iff_eq]

/-- Settles O49: each clause breaks one part of `configLegal_iff`, and TICK, FILL and FILLLAYER test their own part. -/
theorem illegalConfigurationIsRefused : Obligations.IllegalConfigurationIsRefused := by
  intro s
  refine ⟨fun h2 h10 => ?base, fun hall => ?fillOrderAll, fun hlayer => ?fillOrderLayer, fun hperiod => ?tTick,
    fun hwidth => ?brightW⟩
  case base =>
    have hbase : ¬ baseLegal s.cfg.layerMaskBase = true := fun h => ((baseLegal_iff _).1 h).elim h2 h10
    exact ⟨if_neg hbase, step_of_not_configLegal fun h => hbase ((configLegal_iff _).1 h).1⟩
  case fillOrderAll =>
    refine ⟨fun v hv => ?_, step_of_not_configLegal fun h => ?_⟩
    · rw [exec_fill v s hv, hall]
      rfl
    · obtain ⟨-, hlegal, -⟩ := (configLegal_iff _).1 h
      exact Bool.false_ne_true (hall.symm.trans hlegal)
  case fillOrderLayer =>
    refine ⟨fun l v hl hv => ?_, step_of_not_configLegal fun h => ?_⟩
    · rw [exec_filllayer l v s hl hv, hlayer]
      rfl
    · obtain ⟨-, -, hlegal, -⟩ := (configLegal_iff _).1 h
      exact Bool.false_ne_true (hlayer.symm.trans hlegal)
  case tTick =>
    refine step_of_not_configLegal fun h => ?_
    obtain ⟨-, -, -, hlegal, -⟩ := (configLegal_iff _).1 h
    exact hlegal.ne' hperiod
  case brightW =>
    refine step_of_not_configLegal fun h => ?_
    obtain ⟨-, -, -, -, hlegal⟩ := (configLegal_iff _).1 h
    exact hwidth hlegal

/-- A configuration is legal exactly when every parameter has a value 00_scope.md R10 calls legal. -/
theorem configLegal_iff_legal_values (c : Config) :
    configLegal c = true ↔ (c.layerMaskBase = 0x02 ∨ c.layerMaskBase = 0x10) ∧ 0 < c.tTick ∧
      c.fillOrderAll.Perm (List.range 64) ∧ c.fillOrderLayer.Perm (List.range 16) ∧ c.brightW = 8 := by
  rw [configLegal_iff, baseLegal_iff, isOrderOf_iff_perm, isOrderOf_iff_perm]
  tauto

/-- With a legal configuration an operation with its operands in range completes, but for the reserved one. -/
theorem exec_completes {i : Instr} {s : State} (hwf : i.wellFormed = true) (hcfg : configLegal s.cfg = true)
    (hi : i ≠ .reservedTickAndWe) : ∃ t, exec i s = .next t := by
  obtain ⟨hbase, hall, hlayer, -, -⟩ := (configLegal_iff _).1 hcfg
  cases i with
  | reservedTickAndWe => exact absurd rfl hi
  | reset => exact ⟨_, rfl⟩
  | idle => exact ⟨_, rfl⟩
  | shiftbit b => exact ⟨_, rfl⟩
  | txbyte b => exact ⟨_, rfl⟩
  | commit => exact ⟨_, rfl⟩
  | emitframe sel high low => exact ⟨_, rfl⟩
  | tick => exact ⟨_, exec_tick_of_baseLegal s hbase⟩
  | set l c v =>
    simp only [Instr.wellFormed, Bool.and_eq_true, decide_eq_true_eq] at hwf
    obtain ⟨⟨hl, hc⟩, hv⟩ := hwf
    exact ⟨_, exec_set l c v s hl hc hv⟩
  | get l c =>
    simp only [Instr.wellFormed, Bool.and_eq_true, decide_eq_true_eq] at hwf
    exact ⟨_, exec_get l c s hwf.1 hwf.2⟩
  | fill v => exact ⟨_, (exec_fill v s (of_decide_eq_true hwf)).trans (if_pos hall)⟩
  | filllayer l v =>
    simp only [Instr.wellFormed, Bool.and_eq_true, decide_eq_true_eq] at hwf
    exact ⟨_, (exec_filllayer l v s hwf.1 hwf.2).trans (if_pos hlayer)⟩

/-- Taking a request leaves the configuration alone. -/
theorem nextRequest_cfg (s : State) : (nextRequest s).2.cfg = s.cfg := by
  obtain ⟨_, _, h⟩ := nextRequest_rest s
  rw [h]

/-- With a legal configuration a step whose request decodes completes, but for the reserved operation. -/
theorem step_completes {s : State} {i : Instr} (hcfg : configLegal s.cfg = true)
    (hdec : decode (nextRequest s).1 = .ok i) (hi : i ≠ .reservedTickAndWe) : ∃ t, step s = .next t := by
  rw [step_of_decode hcfg hdec]
  exact exec_completes (wellFormed_of_decode hdec) (by rw [nextRequest_cfg]; exact hcfg) hi

/-- Settles O54: a request that fits decodes, and what it decodes to completes. -/
theorem everyStepCompletes : Obligations.EveryStepCompletes := by
  rintro s ⟨-, -, -, hcfg, -⟩ hfits hnot
  obtain ⟨i, hdec, -⟩ := decode_of_wellFormed _ hfits
  exact step_completes hcfg hdec fun hi => hnot (by rw [hdec, hi])

/-- A step with a legal configuration is never refused for its configuration. -/
theorem step_ne_illegalConfig {s : State} (hcfg : configLegal s.cfg = true) : step s ≠ .refused .illegalConfig := by
  cases hdec : decode (nextRequest s).1 with
  | error why =>
    rw [step, if_pos hcfg, hdec]
    exact fun h => nomatch h
  | ok i =>
    by_cases hi : i = .reservedTickAndWe
    · rw [step_of_decode hcfg hdec, hi]
      exact fun h => nomatch h
    · obtain ⟨t, ht⟩ := step_completes hcfg hdec hi
      rw [ht]
      exact fun h => nomatch h

/-- Settles O60: the refusal is the first thing a step tests, and nothing after the test gives it. -/
theorem stepsRefuseExactlyTheIllegalConfigurations : Obligations.StepsRefuseExactlyTheIllegalConfigurations := by
  intro s
  rw [← configLegal_iff_legal_values]
  exact ⟨fun hrefused hcfg => step_ne_illegalConfig hcfg hrefused, step_of_not_configLegal⟩

end Sys2Proof.Machine
end

section
/-! SUPPORT. FILL and FILLLAYER (41_voxel_grid.md R144, R145): the SETs they owe, one for each address of a list, and
the runs in which the foreground performs them. -/

namespace Sys2Proof.Machine

/-! The SETs owed. -/

/-- The SET of the cell at a flat address (30_encoding.md R92). -/
def cellSet (v a : Nat) : Request := encode (.set (a / 16) (a % 16) v)

theorem expandSets_eq (order : List Nat) (v : Nat) : expandSets order v = order.map (cellSet v) := rfl

/-- The word of a cell's SET holds the flat address in one piece, above the value. -/
theorem cellSet_eq (v a : Nat) : cellSet v a = ⟨.req, 0x04000 + 0x100 * a + v⟩ := by
  have hword : 0x04000 + 0x1000 * (a / 16) + 0x100 * (a % 16) + v = 0x04000 + 0x100 * a + v := by omega
  rw [cellSet, encode, hword]

/-- SETs of one value to different cells are different requests. -/
theorem cellSet_injective (v : Nat) : Function.Injective (cellSet v) := by
  intro a b h
  rw [cellSet_eq, cellSet_eq, Request.mk.injEq] at h
  omega

/-- The SET of a layer and a column is the one of their flat address. -/
theorem encode_set_eq_cellSet (l c v : Nat) (hc : c < 16) : encode (.set l c v) = cellSet v (cellAddr l c) := by
  have hl : cellAddr l c / 16 = l := by unfold cellAddr; omega
  have hcol : cellAddr l c % 16 = c := by unfold cellAddr; omega
  rw [cellSet, hl, hcol]

/-- A list of addresses owes the SET of a cell as often as it names the cell. -/
theorem count_expandSets (order : List Nat) (v a : Nat) : (expandSets order v).count (cellSet v a) = order.count a := by
  rw [expandSets_eq, List.count_map_of_injective _ _ (cellSet_injective v)]

/-- A permutation of the numbers below `n` names each of them once. -/
theorem count_of_isOrderOf {n : Nat} {order : List Nat} (h : isOrderOf n order = true) {a : Nat} (ha : a < n) :
    order.count a = 1 := by
  rw [((isOrderOf_iff_perm n order).1 h).count_eq]
  exact List.count_eq_one_of_mem List.nodup_range (List.mem_range.2 ha)

/-- A permutation of the numbers below `n` names those and no other. -/
theorem mem_of_isOrderOf {n : Nat} {order : List Nat} (h : isOrderOf n order = true) (a : Nat) : a ∈ order ↔ a < n := by
  rw [((isOrderOf_iff_perm n order).1 h).mem_iff, List.mem_range]

/-- A permutation of the numbers below `n` has `n` entries. -/
theorem length_of_isOrderOf {n : Nat} {order : List Nat} (h : isOrderOf n order = true) : order.length = n := by
  rw [((isOrderOf_iff_perm n order).1 h).length_eq, List.length_range]

/-- Settles O23: the addresses of the order, each with its SET. -/
theorem fillOwesOneSetPerCell : Obligations.FillOwesOneSetPerCell := by
  intro v s hv horder
  refine ⟨expandSets s.cfg.fillOrderAll v, (exec_fill v s hv).trans (if_pos horder), ?length, fun l c hl hc => ?once,
    fun k l c _ hc hk => ?place⟩
  case length => rw [expandSets_length, length_of_isOrderOf horder]
  case once =>
    rw [encode_set_eq_cellSet l c v hc, count_expandSets]
    exact count_of_isOrderOf horder (cellAddr_lt l c hl hc)
  case place =>
    rw [encode_set_eq_cellSet l c v hc, expandSets_getElem?, hk]
    rfl

/-- The columns of one layer have different addresses. -/
theorem cellAddr_injective (l : Nat) : Function.Injective (cellAddr l) := by
  intro c c' h
  unfold cellAddr at h
  omega

/-- Settles O24: the addresses of the layer's columns in the configured order, each with its SET. -/
theorem filllayerOwesOneSetPerColumn : Obligations.FilllayerOwesOneSetPerColumn := by
  intro l v s hl hv horder
  refine ⟨expandSets (s.cfg.fillOrderLayer.map (cellAddr l)) v, (exec_filllayer l v s hl hv).trans (if_pos horder),
    ?length, fun c hc => ?once, fun k c hc hk => ?place⟩
  case length => rw [expandSets_length, List.length_map, length_of_isOrderOf horder]
  case once =>
    rw [encode_set_eq_cellSet l c v hc, count_expandSets, List.count_map_of_injective _ _ (cellAddr_injective l)]
    exact count_of_isOrderOf horder hc
  case place =>
    rw [encode_set_eq_cellSet l c v hc, expandSets_getElem?, List.getElem?_map, hk]
    rfl

/-! Performing the SETs owed. -/

/-- The foreground owes the SETs of value `v` to the cells `order`, and nothing else. -/
structure Owes (v : Nat) (order : List Nat) (s : State) : Prop where
  value : v < 256
  cells : ∀ a ∈ order, a < 64
  owed : s.pending = expandSets order v
  wf : gridWf s.grid = true
  legal : configLegal s.cfg = true

/-- The foreground owes nothing, and of `s` the cells `order` have taken the value `v` and the others are kept. -/
def Filled (v : Nat) (order : List Nat) (s t : State) : Prop :=
  t.pending = [] ∧ ∀ a, t.readCell a = if a ∈ order then BitVec.ofNat 8 v else s.readCell a

/-- The SET of a cell decodes to that SET. -/
theorem decode_cellSet (v a : Nat) (ha : a < 64) (hv : v < 256) :
    decode (cellSet v a) = .ok (.set (a / 16) (a % 16) v) :=
  decode_setWord (a / 16) (a % 16) v (by omega) (by omega) hv

/-- The SET of a cell stores it. -/
theorem exec_cellSet (v a : Nat) (s : State) (ha : a < 64) (hv : v < 256) :
    exec (.set (a / 16) (a % 16) v) s = .next (s.writeCell a (BitVec.ofNat 8 v)) := by
  rw [exec_set _ _ v s (by omega) (by omega) hv, cellAddr, Nat.div_add_mod]

/-- When nothing is owed everything is filled. -/
theorem Owes.filled_nil {v : Nat} {s : State} (h : Owes v [] s) : Filled v [] s s := ⟨h.owed, fun _ => rfl⟩

/-- After the first SET owed the rest is owed. -/
theorem Owes.tail {v a : Nat} {order : List Nat} {s : State} (h : Owes v (a :: order) s) (turns : List Turn) :
    Owes v order (((s.setInput turns).setPending (expandSets order v)).writeCell a (BitVec.ofNat 8 v)) where
  value := h.value
  cells b hb := h.cells b (List.mem_cons_of_mem a hb)
  owed := rfl
  wf := gridWf_writeCell _ a _ (h.cells a List.mem_cons_self) h.wf
  legal := h.legal

/-- What is filled after the first SET owed is filled with it. -/
theorem Owes.filled_cons {v a : Nat} {order : List Nat} {s t : State} (h : Owes v (a :: order) s) (turns : List Turn)
    (ht : Filled v order (((s.setInput turns).setPending (expandSets order v)).writeCell a (BitVec.ofNat 8 v)) t) :
    Filled v (a :: order) s t := by
  obtain ⟨hnone, hread⟩ := ht
  refine ⟨hnone, fun x => ?_⟩
  have hfirst := readCell_writeCell ((s.setInput turns).setPending (expandSets order v)) a x (BitVec.ofNat 8 v) h.wf
  rw [hread x, hfirst]
  by_cases hx : x ∈ order
  · rw [if_pos hx, if_pos (List.mem_cons_of_mem a hx)]
  · by_cases hxa : x = a
    · simp [hxa]
    · rw [if_neg hx, if_neg hxa, if_neg (List.not_mem_cons_of_ne_of_not_mem hxa hx)]
      rfl

/-- A foreground turn performs the first SET owed. -/
theorem Owes.step_foreground {v a : Nat} {order : List Nat} {turns : List Turn} {s : State}
    (h : Owes v (a :: order) s) (hin : s.input = .foreground :: turns) :
    step s = .next (((s.setInput turns).setPending (expandSets order v)).writeCell a (BitVec.ofNat 8 v)) := by
  have ha := h.cells a List.mem_cons_self
  rw [(foregroundTurnRunsTheNextOwedSet _ _ _ turns s h.legal).1 hin h.owed (decode_cellSet v a ha h.value)]
  exact exec_cellSet v a _ ha h.value

/-- A run goes on from the state its first step answers. -/
theorem runSteps_succ {n : Nat} {s t : State} (h : step s = .next t) : runSteps (n + 1) s = runSteps n t := by
  rw [runSteps, h]

/-- A tick or an idle event that falls in between is performed, and keeps the grid, the SETs owed and the
configuration. -/
theorem step_quiet_preempt {r : Request} {turns : List Turn} {s : State} (hcfg : configLegal s.cfg = true)
    (hin : s.input = .preempt r :: turns) (hquiet : isQuietTurn (.preempt r) = true) :
    ∃ t, step s = .next t ∧ t.input = turns ∧ t.grid = s.grid ∧ t.pending = s.pending ∧ t.cfg = s.cfg := by
  have hnext := nextRequest_preempt hin
  simp only [isQuietTurn] at hquiet
  split at hquiet
  · next hdec =>
    obtain ⟨hbase, -⟩ := (configLegal_iff _).1 hcfg
    obtain ⟨_, _, _, _, hrest⟩ := tickBody_rest (s.setInput turns)
    refine ⟨_, (step_of_nextRequest hcfg hnext hdec).trans (exec_tick_of_baseLegal _ hbase), ?_⟩
    rw [hrest]
    exact ⟨rfl, rfl, rfl, rfl⟩
  · next hdec => exact ⟨_, step_of_nextRequest hcfg hnext hdec, rfl, rfl, rfl, rfl⟩
  · cases hquiet

/-- Through any merge of foreground turns with ticks and idle events the cells owed are filled, by induction on the
turns. -/
theorem Owes.run_quiet {v : Nat} (turns : List Turn) : ∀ {order : List Nat} {s : State}, Owes v order s →
    s.input = turns → turns.all isQuietTurn = true → order.length ≤ turns.count .foreground →
    ∃ t, runSteps turns.length s = some t ∧ t.input = [] ∧ Filled v order s t := by
  induction turns with
  | nil =>
    intro order s h hin _ hcount
    obtain rfl : order = [] := List.eq_nil_of_length_eq_zero (Nat.le_zero.1 hcount)
    exact ⟨s, rfl, hin, h.filled_nil⟩
  | cons turn turns ih =>
    intro order s h hin hquiet hcount
    rw [List.all_cons, Bool.and_eq_true] at hquiet
    obtain ⟨hturn, hrest⟩ := hquiet
    cases turn with
    | request r => cases hturn
    | preempt r =>
      obtain ⟨u, hstep, hinput, hgrid, hpending, hcfg⟩ := step_quiet_preempt h.legal hin hturn
      have hu : Owes v order u :=
        ⟨h.value, h.cells, by rw [hpending, h.owed], by rw [hgrid, h.wf], by rw [hcfg, h.legal]⟩
      obtain ⟨t, hrun, hempty, hnone, hread⟩ := ih hu hinput hrest (by simpa using hcount)
      refine ⟨t, (runSteps_succ hstep).trans hrun, hempty, hnone, fun a => ?_⟩
      rw [hread a, State.readCell, hgrid, State.readCell]
    | foreground =>
      cases order with
      | nil =>
        obtain ⟨-, -, -, hidle, -⟩ := foregroundTurnRunsTheNextOwedSet idleRequest .idle [] turns s h.legal
        have hu : Owes v [] (s.setInput turns) := ⟨h.value, h.cells, h.owed, h.wf, h.legal⟩
        obtain ⟨t, hrun, hempty, hfilled⟩ := ih hu rfl hrest (Nat.zero_le _)
        exact ⟨t, (runSteps_succ (hidle hin h.owed)).trans hrun, hempty, hfilled⟩
      | cons a order =>
        rw [List.length_cons, List.count_cons_self] at hcount
        obtain ⟨t, hrun, hempty, hfilled⟩ := ih (h.tail turns) rfl hrest (Nat.le_of_succ_le_succ hcount)
        exact ⟨t, (runSteps_succ (h.step_foreground hin)).trans hrun, hempty, h.filled_cons turns hfilled⟩

/-- With no turn left, or while a request in program order waits, a step performs the first SET owed. -/
theorem Owes.step_unpreempted {v a : Nat} {order : List Nat} {s : State} (h : Owes v (a :: order) s)
    (hin : s.input = [] ∨ ∃ r later, s.input = .request r :: later) :
    step s = .next (((s.setInput s.input).setPending (expandSets order v)).writeCell a (BitVec.ofNat 8 v)) := by
  have ha := h.cells a List.mem_cons_self
  have hdec := decode_cellSet v a ha h.value
  have hexec := exec_cellSet v a (s.setPending (expandSets order v)) ha h.value
  obtain hin | ⟨r, later, hin⟩ := hin
  · obtain ⟨-, hnothingMore, -⟩ := foregroundTurnRunsTheNextOwedSet (cellSet v a) _ (expandSets order v) [] s h.legal
    exact (hnothingMore hin h.owed hdec).trans hexec
  · obtain ⟨-, -, hwaiting, -⟩ := foregroundTurnRunsTheNextOwedSet (cellSet v a) _ (expandSets order v) later s h.legal
    exact (hwaiting r hin h.owed hdec).trans hexec

/-- When nothing preempts them, the SETs owed are performed in as many steps, and no turn is taken. -/
theorem Owes.run_unpreempted {v : Nat} {order : List Nat} {s : State} (h : Owes v order s)
    (hin : s.input = [] ∨ ∃ r later, s.input = .request r :: later) :
    ∃ t, runSteps order.length s = some t ∧ t.input = s.input ∧ Filled v order s t := by
  induction order generalizing s with
  | nil => exact ⟨s, rfl, rfl, h.filled_nil⟩
  | cons a order ih =>
    obtain ⟨t, hrun, hinput, hfilled⟩ := ih (h.tail s.input) hin
    exact ⟨t, (runSteps_succ (h.step_unpreempted hin)).trans hrun, hinput, h.filled_cons s.input hfilled⟩

/-! FILL and FILLLAYER as the next request. -/

/-- A step that takes a FILL with nothing owed owes one SET of the value for every cell. -/
theorem step_fill {v : Nat} {turns : List Turn} {s : State} (hv : v < 256) (hwf : gridWf s.grid = true)
    (hcfg : configLegal s.cfg = true) (hnone : s.pending = []) (hin : s.input = .request ⟨.fillArg, v⟩ :: turns) :
    step s = .next (queueSets s.cfg.fillOrderAll v (s.setInput turns)) ∧
      Owes v s.cfg.fillOrderAll (queueSets s.cfg.fillOrderAll v (s.setInput turns)) := by
  obtain ⟨-, horder, -⟩ := (configLegal_iff _).1 hcfg
  refine ⟨?_, hv, fun a ha => (mem_of_isOrderOf horder a).1 ha, ?_, hwf, hcfg⟩
  · rw [step_of_nextRequest hcfg (nextRequest_request hin hnone) (decode_fillWord v hv), exec_fill v _ hv]
    exact if_pos horder
  · rw [queueSets_eq, State.setInput_pending, hnone, List.nil_append]

/-- A step that takes a FILLLAYER with nothing owed owes one SET of the value for every cell of the layer. -/
theorem step_filllayer {l v : Nat} {turns : List Turn} {s : State} (hl : l < 4) (hv : v < 256)
    (hwf : gridWf s.grid = true) (hcfg : configLegal s.cfg = true) (hnone : s.pending = [])
    (hin : s.input = .request ⟨.fillLayerArg, 0x100 * l + v⟩ :: turns) :
    step s = .next (queueSets (s.cfg.fillOrderLayer.map (cellAddr l)) v (s.setInput turns)) ∧
      Owes v (s.cfg.fillOrderLayer.map (cellAddr l))
        (queueSets (s.cfg.fillOrderLayer.map (cellAddr l)) v (s.setInput turns)) := by
  obtain ⟨-, -, horder, -⟩ := (configLegal_iff _).1 hcfg
  refine ⟨?_, hv, fun a ha => ?_, ?_, hwf, hcfg⟩
  · rw [step_of_nextRequest hcfg (nextRequest_request hin hnone) (decode_filllayerWord l v hl hv),
      exec_filllayer l v _ hl hv]
    exact if_pos horder
  · obtain ⟨c, hc, rfl⟩ := List.mem_map.1 ha
    exact cellAddr_lt l c hl ((mem_of_isOrderOf horder c).1 hc)
  · rw [queueSets_eq, State.setInput_pending, hnone, List.nil_append]

/-- The addresses FILLLAYER names are those of its layer. -/
theorem mem_layerCells {order : List Nat} (h : isOrderOf 16 order = true) (l a : Nat) :
    a ∈ order.map (cellAddr l) ↔ a / 16 = l := by
  rw [List.mem_map]
  constructor
  · rintro ⟨c, hc, rfl⟩
    have := (mem_of_isOrderOf h c).1 hc
    unfold cellAddr
    omega
  · intro ha
    refine ⟨a % 16, (mem_of_isOrderOf h _).2 (Nat.mod_lt a (by decide)), ?_⟩
    unfold cellAddr
    omega

/-- Every cell filled in the order of FILL reads the value. -/
theorem Filled.all {v : Nat} {order : List Nat} {s t : State} (h : Filled v order s t)
    (horder : isOrderOf 64 order = true) (a : Nat) (ha : a < 64) : t.readCell a = BitVec.ofNat 8 v :=
  (h.2 a).trans (if_pos ((mem_of_isOrderOf horder a).2 ha))

/-- Filled in the order of FILLLAYER, the cells of the layer read the value and the others are kept. -/
theorem Filled.layer {l v : Nat} {order : List Nat} {s t : State} (h : Filled v (order.map (cellAddr l)) s t)
    (horder : isOrderOf 16 order = true) (a : Nat) :
    t.readCell a = if a / 16 = l then BitVec.ofNat 8 v else s.readCell a := by
  rw [h.2 a]
  simp only [mem_layerCells horder l a]

/-- Settles O25: the FILL's step owes the 64 SETs, and `Owes.run_quiet` performs them. -/
theorem fillFillsUnderEveryMerge : Obligations.FillFillsUnderEveryMerge := by
  intro v turns s hv hwf hcfg hnone hin hquiet hcount
  obtain ⟨hstep, howes⟩ := step_fill hv hwf hcfg hnone hin
  obtain ⟨-, horder, -⟩ := (configLegal_iff _).1 hcfg
  obtain ⟨t, hrun, hempty, hfilled⟩ := howes.run_quiet turns rfl hquiet (by rwa [length_of_isOrderOf horder])
  exact ⟨t, (runSteps_succ hstep).trans hrun, hfilled.1, hempty, hfilled.all horder⟩

/-- Settles O26: the FILLLAYER's step owes the 16 SETs, and `Owes.run_quiet` performs them. -/
theorem filllayerFillsUnderEveryMerge : Obligations.FilllayerFillsUnderEveryMerge := by
  intro l v turns s hl hv hwf hcfg hnone hin hquiet hcount
  obtain ⟨hstep, howes⟩ := step_filllayer hl hv hwf hcfg hnone hin
  obtain ⟨-, -, horder, -⟩ := (configLegal_iff _).1 hcfg
  obtain ⟨t, hrun, hempty, hfilled⟩ := howes.run_quiet turns rfl hquiet
    (by rwa [List.length_map, length_of_isOrderOf horder])
  exact ⟨t, (runSteps_succ hstep).trans hrun, hfilled.1, hempty, fun a _ => hfilled.layer horder a⟩

/-- Settles O27: one step for the request and one for each SET it owes. -/
theorem fillsFinishBeforeTheNextRequest : Obligations.FillsFinishBeforeTheNextRequest := by
  intro l v rest s hl hv hwf hcfg hnone hrest
  obtain ⟨-, hall, hlayer, -⟩ := (configLegal_iff _).1 hcfg
  refine ⟨fun hin => ?fill, fun hin => ?filllayer⟩
  case fill =>
    obtain ⟨hstep, howes⟩ := step_fill hv hwf hcfg hnone hin
    obtain ⟨t, hrun, hinput, hfilled⟩ := howes.run_unpreempted hrest
    rw [length_of_isOrderOf hall] at hrun
    exact ⟨t, (runSteps_succ hstep).trans hrun, hfilled.1, hinput, hfilled.all hall⟩
  case filllayer =>
    obtain ⟨hstep, howes⟩ := step_filllayer hl hv hwf hcfg hnone hin
    obtain ⟨t, hrun, hinput, hfilled⟩ := howes.run_unpreempted hrest
    rw [List.length_map, length_of_isOrderOf hlayer] at hrun
    exact ⟨t, (runSteps_succ hstep).trans hrun, hfilled.1, hinput, fun a _ => hfilled.layer hlayer a⟩

end Sys2Proof.Machine
end

section
/-! SUPPORT. The frame, the lit function and runs of ticks (42_refresh_engine.md sections 2 and 3): what a frame shows,
which cursor a tick reaches, and what follows over 64 ticks. -/

namespace Sys2Proof.Machine

/-! FRAME and the lit function, R163 to R166, 10_state.md R37. -/

/-- Settles O33: the comparison of the two numbers, and a sub-step is below 16. -/
theorem litIsStrictlyGreater : Obligations.LitIsStrictlyGreater := by
  intro v subStep
  have hlt := subStep.isLt
  refine ⟨lit_eq_decide_lt v subStep, fun hv => ?_⟩
  rw [lit_eq_decide_lt, decide_eq_true_iff]
  omega

/-- Settles O35: the low byte shows columns 0 to 7, the middle byte columns 8 to 15, the top byte the layer. -/
theorem frameBitByBit : Obligations.FrameBitByBit := by
  intro g c base
  refine ⟨fun i hi => ?columns, ?layer⟩
  case columns =>
    rw [frame, BitVec.getLsbD_append, BitVec.getLsbD_append]
    by_cases hlow : i < 8
    · rw [if_pos hlow]
      exact (columnBytesBitByBit g c.layer c.subStep i hlow).1
    · have hhigh : i - 8 < 8 := by omega
      have hi' : 8 + (i - 8) = i := by omega
      rw [if_neg hlow, if_pos hhigh, (columnBytesBitByBit g c.layer c.subStep (i - 8) hhigh).2, hi']
  case layer =>
    apply BitVec.eq_of_getLsbD_eq
    intro i hi
    have hnotLow : ¬ 16 + i < 8 := by omega
    have hnotHigh : ¬ 16 + i - 8 < 8 := by omega
    have hindex : 16 + i - 8 - 8 = i := by omega
    rw [BitVec.getLsbD_extractLsb', decide_eq_true hi, Bool.true_and, frame, BitVec.getLsbD_append, if_neg hnotLow,
      BitVec.getLsbD_append, if_neg hnotHigh, hindex]

/-- A frame shows column `c` of its cursor's layer. -/
theorem frame_column (g : Grid) (cur : Cursor) (base : Byte) (c : Nat) (hc : c < 16) :
    (frame g cur base).getLsbD c = decide (cur.subStep.toNat < (gridRead g (16 * cur.layer.toNat + c)).toNat) :=
  (frameBitByBit g cur base).1 c hc

/-- The top byte of a frame is its cursor's layer byte. -/
theorem frame_layerByte (g : Grid) (cur : Cursor) (base : Byte) :
    (frame g cur base).extractLsb' 16 8 = layerSel cur.layer base := (frameBitByBit g cur base).2

/-- Layer `l` is read in the top byte, at the bit the wiring gives it. -/
theorem layerOn_eq (base : Byte) (f : FrameWord) (l : Nat) (h : layerBit0 base + l < 8) :
    layerOn base f l = !(f.extractLsb' 16 8).getLsbD (layerBit0 base + l) := by
  rw [layerOn, BitVec.getLsbD_extractLsb', decide_eq_true h, Bool.true_and, Nat.add_assoc]

/-- The layer's bit stays in the top byte in both wirings. -/
theorem layerBit0_add_lt {base : Byte} (hbase : baseLegal base = true) {l : Nat} (hl : l < 4) :
    layerBit0 base + l < 8 := by
  have h4 : layerBit0 base ≤ 4 := by
    obtain rfl | rfl := (baseLegal_iff base).1 hbase <;> decide
  omega

/-- On its own board a frame turns on its cursor's layer and no other. -/
theorem layerOn_frame (g : Grid) (cur : Cursor) {base : Byte} (hbase : baseLegal base = true) {l : Nat} (hl : l < 4) :
    layerOn base (frame g cur base) l = decide (l = cur.layer.toNat) := by
  have hbit := layerBit0_add_lt hbase hl
  rw [layerOn_eq _ _ _ hbit, frame_layerByte, layerSelIsOneCold.1 cur.layer base hbase _ hbit, ← decide_not]
  simp

/-- On its own board a frame lights the voxels of its cursor's layer that are brighter than the sub-step. -/
theorem voxelLit_frame (g : Grid) (cur : Cursor) {base : Byte} (hbase : baseLegal base = true) {l c : Nat} (hl : l < 4)
    (hc : c < 16) : voxelLit base (frame g cur base) l c =
      decide (l = cur.layer.toNat ∧ cur.subStep.toNat < (gridRead g (16 * l + c)).toNat) := by
  rw [voxelLit, layerOn_frame g cur hbase hl, columnOn, frame_column g cur base c hc, Bool.decide_and]
  by_cases hlayer : l = cur.layer.toNat
  · rw [← hlayer]
  · rw [decide_eq_false hlayer, Bool.false_and, Bool.false_and]

/-- Settles O59: on the other board a layer is read three bits away, so only the layer at the edge is seen. -/
theorem wrongWiringSelectsTheWrongLayer : Obligations.WrongWiringSelectsTheWrongLayer := by
  intro layer columns l hl
  have htop (sel : Byte) : (sel ++ columns).extractLsb' 16 8 = sel := by
    apply BitVec.eq_of_getLsbD_eq
    intro i hi
    rw [BitVec.getLsbD_extractLsb', decide_eq_true hi, Bool.true_and, BitVec.getLsbD_append, if_neg (by omega),
      Nat.add_sub_cancel_left]
  have hA : layerBit0 0x02 = 1 := rfl
  have hB : layerBit0 0x10 = 4 := rfl
  have hselA (i : Nat) (hi : i < 8) := layerSel_twoPow_getLsbD layer 1 i hi
  have hselB (i : Nat) (hi : i < 8) := layerSel_twoPow_getLsbD layer 4 i hi
  refine ⟨?onB, ?onA⟩
  case onB =>
    rw [layerOn_eq _ _ _ (by omega), htop, hB]
    refine (congrArg not (hselA (4 + l) (by omega))).trans ?_
    rw [← decide_not, decide_eq_decide]
    bv_omega
  case onA =>
    rw [layerOn_eq _ _ _ (by omega), htop, hA]
    refine (congrArg not (hselB (1 + l) (by omega))).trans ?_
    rw [← decide_not, decide_eq_decide]
    bv_omega

/-- The columns of a layer are made of that layer's cells only. -/
theorem columns_congr {g h : Grid} {layer : BitVec 2} (subStep : BitVec 4)
    (hrow : ∀ c, c < 16 → gridRead g (16 * layer.toNat + c) = gridRead h (16 * layer.toNat + c)) :
    columnsLow g layer subStep = columnsLow h layer subStep ∧
      columnsHigh g layer subStep = columnsHigh h layer subStep := by
  refine ⟨BitVec.eq_of_getLsbD_eq fun i hi => ?low, BitVec.eq_of_getLsbD_eq fun i hi => ?high⟩
  case low =>
    rw [(columnBytesBitByBit g layer subStep i hi).1, (columnBytesBitByBit h layer subStep i hi).1,
      hrow i (by omega)]
  case high =>
    rw [(columnBytesBitByBit g layer subStep i hi).2, (columnBytesBitByBit h layer subStep i hi).2,
      hrow (8 + i) (by omega)]

/-- Settles O37: both ticks are those of `tickBody_of_low`, and their frames are made of the same cells. -/
theorem tickDependsOnOneLayerOnly : Obligations.TickDependsOnOneLayerOnly := by
  intro s t hsc hsl htc htl hbase hcfg hcur hrow
  refine ⟨tickBody s, tickBody t, exec_tick_of_baseLegal s hbase,
    exec_tick_of_baseLegal t (by rw [hcfg]; exact hbase), ?_⟩
  obtain ⟨hlow, hhigh⟩ := columns_congr (advance s.cur).subStep hrow
  have hframe : frame t.grid (advance s.cur) s.cfg.layerMaskBase = frame s.grid (advance s.cur) s.cfg.layerMaskBase := by
    rw [frame, frame, hlow, hhigh]
  rw [tickBody_of_low s hsc hsl, tickBody_of_low t htc htl, hcur, hcfg, hframe, hlow]
  exact ⟨rfl, rfl, rfl, rfl⟩

/-- Settles O40: the outputs show the frame of the new cursor. -/
theorem exactlyOneLayerIsActive : Obligations.ExactlyOneLayerIsActive := by
  intro s hclock hlatch hbase
  refine ⟨tickBody s, exec_tick_of_baseLegal s hbase, fun l hl => ?_⟩
  rw [tickBody_of_low s hclock hlatch]
  exact ⟨layerOn_frame s.grid _ hbase hl, fun c hc => voxelLit_frame s.grid _ hbase hl hc⟩

/-! The cursor as a number, 10_state.md R25. -/

theorem Cursor.layer_toNat (c : Cursor) : c.layer.toNat = c.pc.toNat / 16 := by
  have hstep := c.subStep.isLt
  rw [c.pc_toNat]
  omega

theorem Cursor.subStep_toNat (c : Cursor) : c.subStep.toNat = c.pc.toNat % 16 := by
  have hstep := c.subStep.isLt
  rw [c.pc_toNat]
  omega

/-- The flat cursor names the cursor. -/
theorem Cursor.eq_iff_pc (c d : Cursor) : c = d ↔ c.pc.toNat = d.pc.toNat := by
  refine ⟨fun h => by rw [h], fun h => ?_⟩
  have hlayer : c.layer = d.layer := BitVec.eq_of_toNat_eq (by rw [c.layer_toNat, d.layer_toNat, h])
  have hstep : c.subStep = d.subStep := BitVec.eq_of_toNat_eq (by rw [c.subStep_toNat, d.subStep_toNat, h])
  cases c
  cases d
  exact congrArg₂ Cursor.mk hlayer hstep

/-- `n` advances add `n` to the flat cursor, modulo 64. -/
theorem iterate_advance_pc (n : Nat) (c : Cursor) : (advance^[n] c).pc.toNat = (c.pc.toNat + n) % 64 := by
  induction n generalizing c with
  | zero => exact (Nat.mod_eq_of_lt c.pc.isLt).symm
  | succ n ih =>
    rw [Function.iterate_succ_apply, ih, advance_pc, BitVec.toNat_add]
    have hone : (1 : BitVec 6).toNat = 1 := rfl
    omega

/-! Runs of ticks, R167. -/

/-- Under a documented wiring a run of ticks is the body of a tick iterated. -/
theorem runTicks_eq_iterate (n : Nat) (s : State) (hbase : baseLegal s.cfg.layerMaskBase = true) :
    runTicks n s = some (tickBody^[n] s) := by
  induction n generalizing s with
  | zero => rfl
  | succ n ih =>
    have hcfg : (tickBody s).cfg = s.cfg := by
      obtain ⟨_, _, _, _, h⟩ := tickBody_rest s
      rw [h]
    exact (runInstrs_cons _ (exec_tick_of_baseLegal s hbase)).trans (ih (tickBody s) (by rw [hcfg]; exact hbase))

/-- `n` ticks advance the cursor `n` times and keep the grid and the configuration. -/
theorem iterate_tickBody_rest (n : Nat) (s : State) :
    (tickBody^[n] s).cur = advance^[n] s.cur ∧ (tickBody^[n] s).grid = s.grid ∧ (tickBody^[n] s).cfg = s.cfg := by
  induction n generalizing s with
  | zero => exact ⟨rfl, rfl, rfl⟩
  | succ n ih =>
    obtain ⟨hcur, hgrid, hcfg⟩ := ih (tickBody s)
    obtain ⟨_, _, _, _, h⟩ := tickBody_rest s
    rw [Function.iterate_succ_apply, Function.iterate_succ_apply, hcur, hgrid, hcfg, h]
    exact ⟨rfl, rfl, rfl⟩

/-- Ticks from low pins end with low pins. -/
theorem iterate_tickBody_low (n : Nat) (s : State) (hc : s.pins.clock = false) (hl : s.pins.latch = false) :
    (tickBody^[n] s).pins.clock = false ∧ (tickBody^[n] s).pins.latch = false := by
  induction n generalizing s with
  | zero => exact ⟨hc, hl⟩
  | succ n ih =>
    have h := tickBody_of_low s hc hl
    exact ih (tickBody s) (by rw [h]) (by rw [h])

/-- After at least one tick from low pins the outputs show the frame of the cursor. -/
theorem iterate_tickBody_shown (n : Nat) (s : State) (hn : 0 < n) (hc : s.pins.clock = false)
    (hl : s.pins.latch = false) :
    (tickBody^[n] s).latched = frame s.grid (tickBody^[n] s).cur s.cfg.layerMaskBase ∧
      (tickBody^[n] s).shadow = (tickBody^[n] s).latched := by
  obtain ⟨m, rfl⟩ := Nat.exists_eq_succ_of_ne_zero hn.ne'
  obtain ⟨hlowc, hlowl⟩ := iterate_tickBody_low m s hc hl
  obtain ⟨-, hgrid, hcfg⟩ := iterate_tickBody_rest m s
  rw [Function.iterate_succ_apply', tickBody_of_low _ hlowc hlowl, hgrid, hcfg]
  exact ⟨rfl, rfl⟩

/-- Settles O38: the ticks are the body iterated, and each iteration adds one to the flat cursor. -/
theorem ticksFollowTheCursor : Obligations.TicksFollowTheCursor := by
  intro n s hclock hlatch hbase
  obtain ⟨hcur, hgrid, -⟩ := iterate_tickBody_rest n s
  refine ⟨tickBody^[n] s, runTicks_eq_iterate n s hbase, ?_, hgrid,
    fun hn => iterate_tickBody_shown n s hn hclock hlatch⟩
  rw [hcur, iterate_advance_pc]

/-- Settles O39: the one tick of the 64 that adds the distance from the cursor to the one sought. -/
theorem sixtyFourTicksUseEachCursorOnce : Obligations.SixtyFourTicksUseEachCursorOnce := by
  intro s c hbase
  have hreach (n : Nat) : (∃ t, runTicks n s = some t ∧ t.cur = c) ↔ (s.cur.pc.toNat + n) % 64 = c.pc.toNat := by
    obtain ⟨hcur, -, -⟩ := iterate_tickBody_rest n s
    rw [← iterate_advance_pc, ← Cursor.eq_iff_pc, ← hcur, runTicks_eq_iterate n s hbase]
    simp
  have hs := s.cur.pc.isLt
  have hc := c.pc.isLt
  refine ⟨(c.pc.toNat + 63 - s.cur.pc.toNat) % 64, ⟨Nat.mod_lt _ (by decide), (hreach _).2 (by omega)⟩,
    fun j hj h => ?_⟩
  have hj' := (hreach _).1 h
  omega

/-! Brightness, R169 and R170. -/

/-- After at least one tick from low pins a voxel is lit exactly when the flat cursor is in its layer, at a sub-step
below its brightness. -/
theorem runTicks_voxelLit (n : Nat) (s : State) (l c : Nat) (hn : 0 < n) (hclock : s.pins.clock = false)
    (hlatch : s.pins.latch = false) (hbase : baseLegal s.cfg.layerMaskBase = true) (hl : l < 4) (hc : c < 16) :
    ∃ t, runTicks n s = some t ∧ voxelLit s.cfg.layerMaskBase t.latched l c =
      decide ((s.cur.pc.toNat + n) / 16 % 4 = l ∧ (s.cur.pc.toNat + n) % 16 < (s.readCell (16 * l + c)).toNat) := by
  obtain ⟨t, hrun, hpc, -, hshown⟩ := ticksFollowTheCursor n s hclock hlatch hbase
  refine ⟨t, hrun, ?_⟩
  rw [(hshown hn).1, voxelLit_frame s.grid t.cur hbase hl hc, t.cur.layer_toNat, t.cur.subStep_toNat, hpc,
    decide_eq_decide, State.readCell]
  have hlayer : (s.cur.pc.toNat + n) % 64 / 16 = (s.cur.pc.toNat + n) / 16 % 4 := by omega
  have hstep : (s.cur.pc.toNat + n) % 64 % 16 = (s.cur.pc.toNat + n) % 16 := by omega
  rw [hlayer, hstep, eq_comm]

/-- A predicate of period `m` holds as often in any `m` consecutive places as in the first `m`. -/
theorem count_add_left_of_periodic (q : Nat → Prop) [DecidablePred q] (m : Nat) (hq : ∀ k, q (m + k) ↔ q k) (a : Nat) :
    Nat.count (fun k => q (a + k)) m = Nat.count q m := by
  have hfront := Nat.count_add q a m
  have hback := Nat.count_add q m a
  have hperiod : Nat.count (fun k => q (m + k)) a = Nat.count q a := by
    unfold Nat.count
    exact List.countP_congr fun k _ => by simpa only [decide_eq_true_iff] using hq k
  rw [Nat.add_comm m a] at hback
  omega

/-- Of the 64 cursors, those in one layer at a sub-step below `v` are `min v 16`. -/
theorem count_cursors (l v : Nat) (hl : l < 4) : Nat.count (fun n => n / 16 % 4 = l ∧ n % 16 < v) 64 = min v 16 := by
  have hcursors : {n ∈ Finset.range 64 | n / 16 % 4 = l ∧ n % 16 < v} =
      (Finset.range (min v 16)).image (cellAddr l) := by
    ext n
    simp only [Finset.mem_filter, Finset.mem_range, Finset.mem_image, cellAddr]
    constructor
    · rintro ⟨hn, hlayer, hstep⟩
      exact ⟨n % 16, by omega, by omega⟩
    · rintro ⟨x, hx, rfl⟩
      omega
  rw [Nat.count_eq_card_filter_range, hcursors, Finset.card_image_of_injective _ (cellAddr_injective l),
    Finset.card_range]

/-- Settles O41: over 64 ticks the flat cursor takes each value once, and `count_cursors` of them light the voxel. -/
theorem brightnessIsTheCountOfLitTicks : Obligations.BrightnessIsTheCountOfLitTicks := by
  intro s l c hclock hlatch hbase hl hc
  rw [← count_cursors l (s.readCell (16 * l + c)).toNat hl,
    ← count_add_left_of_periodic _ 64 (by omega) (s.cur.pc.toNat + 1), Nat.count]
  refine List.countP_congr fun k _ => ?_
  obtain ⟨t, hrun, hlit⟩ := runTicks_voxelLit (k + 1) s l c (Nat.succ_pos k) hclock hlatch hbase hl hc
  have hplace : s.cur.pc.toNat + (k + 1) = s.cur.pc.toNat + 1 + k := by omega
  rw [hplace] at hlit
  rw [hrun, ← hlit]

/-- From any flat cursor the next one of a given layer is at most 49 places on: 48 to pass the other three layers, when
the layer has just been left. -/
theorem exists_first_tick_of_layer (p l : Nat) (hl : l < 4) :
    ∃ k, (1 ≤ k ∧ (p + k) % 64 / 16 = l) ∧ k ≤ 49 ∧ ∀ j, 1 ≤ j → j < k → (p + j) % 64 / 16 ≠ l := by
  have hexists : ∃ k, 1 ≤ k ∧ k ≤ 49 ∧ (p + k) % 64 / 16 = l := by
    by_cases hnext : (p + 1) % 64 / 16 = l
    · exact ⟨1, le_refl 1, by decide, hnext⟩
    · exact ⟨(16 * l + 63 - p % 64) % 64 + 1, by omega, by omega, by omega⟩
  obtain ⟨k, hk1, hk49, hk⟩ := hexists
  have hfind : ∃ k, 1 ≤ k ∧ (p + k) % 64 / 16 = l := ⟨k, hk1, hk⟩
  exact ⟨Nat.find hfind, Nat.find_spec hfind, (Nat.find_min' hfind ⟨hk1, hk⟩).trans hk49,
    fun j hj1 hj h => Nat.find_min hfind hj ⟨hj1, h⟩⟩

/-- Settles O42: the first tick at which the flat cursor is in the layer, whose frame shows the layer's cells. -/
theorem writeIsShownWithinFortyNineTicks : Obligations.WriteIsShownWithinFortyNineTicks := by
  intro l s hl hclock hlatch hbase
  obtain ⟨k, ⟨hk1, hlayer⟩, hk49, hfirst⟩ := exists_first_tick_of_layer s.cur.pc.toNat l hl
  obtain ⟨t, hrun, hpc, -, hshown⟩ := ticksFollowTheCursor k s hclock hlatch hbase
  have htl : t.cur.layer.toNat = l := by rw [t.cur.layer_toNat, hpc, hlayer]
  refine ⟨k, t, hk1, hk49, hrun, htl, fun c hc => ?columns, fun j u hj1 hjk hu => ?earlier⟩
  case columns =>
    rw [(hshown hk1).1, frame_column s.grid t.cur _ c hc, htl]
    rfl
  case earlier =>
    obtain ⟨u', hrun', hpc', -, -⟩ := ticksFollowTheCursor j s hclock hlatch hbase
    obtain rfl : u' = u := Option.some.inj (hrun'.symm.trans hu)
    rw [u'.cur.layer_toNat, hpc']
    exact hfirst j hj1 hjk

/-! After a RESET, 70_reset_and_hazards.md section 1. -/

theorem exec_reset (s : State) : exec .reset s = .next (startup s) := rfl

/-- Settles O43: the free values are those `startup` draws. -/
theorem resetEffect : Obligations.ResetEffect := fun s => ⟨_, _, _, exec_reset s, fun _ => rfl⟩

/-- Settles O44: the fields of `State.reset`. -/
theorem resetStateHoldsTheResetValues : Obligations.ResetStateHoldsTheResetValues := ⟨fun _ => rfl, rfl, rfl, rfl⟩

/-- The frame of the dark cube at cursor (0, 1) in the two documented wirings (R241). -/
theorem frame_dark_first (base : Byte) (h : baseLegal base = true) :
    frame [] ⟨0, 1⟩ base = if base = 0x02 then 0xFD0000 else 0xEF0000 := by
  obtain rfl | rfl := (baseLegal_iff base).1 h <;> decide

/-- Settles O45: the tick advances from cursor (0, 0) and shows the empty grid. -/
theorem firstFrameAfterReset : Obligations.FirstFrameAfterReset := by
  intro s hbase
  have hrun := (runInstrs_cons [.tick] (exec_reset s)).trans
    (runInstrs_cons [] (exec_tick_of_baseLegal (startup s) hbase))
  refine ⟨_, hrun, ?_⟩
  rw [tickBody_of_low (startup s) rfl rfl]
  exact ⟨rfl, frame_dark_first _ hbase, rfl⟩

/-- Settles O46: the flat cursor starts at 0, so sub-step 0 of layer 0 comes back with the 64th tick. -/
theorem dimVoxelFirstLitAtTickSixtyFour : Obligations.DimVoxelFirstLitAtTickSixtyFour := by
  intro s c hbase hc
  have hset := exec_set 0 c 1 (startup s) (by decide) hc (by decide)
  refine ⟨_, (runInstrs_cons _ (exec_reset s)).trans (runInstrs_cons [] hset), fun k hk1 hk64 => ?_⟩
  obtain ⟨t, hrun, hlit⟩ := runTicks_voxelLit k ((startup s).writeCell (cellAddr 0 c) (BitVec.ofNat 8 1)) 0 c hk1 rfl
    rfl hbase (by decide) hc
  refine ⟨t, hrun, hlit.trans ?_⟩
  have hpc : ((startup s).writeCell (cellAddr 0 c) (BitVec.ofNat 8 1)).cur.pc.toNat = 0 := by
    rw [Cursor.pc_toNat]
    rfl
  have hcell : ((startup s).writeCell (cellAddr 0 c) (BitVec.ofNat 8 1)).readCell (16 * 0 + c) = 1 :=
    (readCell_writeCell (startup s) _ _ _ rfl).trans (if_pos rfl)
  have hone : (1 : Byte).toNat = 1 := rfl
  rw [hpc, hcell, hone, decide_eq_decide]
  omega

end Sys2Proof.Machine
end

section
/-! SUPPORT. What every operation and every step keeps (10_state.md section 10): the frame of each family of operations,
the invariant, the outputs, the configuration and the durations. -/

namespace Sys2Proof.Machine

/-! The frames, one for each family of operations (41_voxel_grid.md R148). -/

/-- SET, GET, FILL and FILLLAYER. -/
def IsGridOperation (i : Instr) : Prop :=
  (∃ l c v, i = .set l c v) ∨ (∃ l c, i = .get l c) ∨ (∃ v, i = .fill v) ∨ (∃ l v, i = .filllayer l v)

/-- TICK and the serializer's operations. -/
def IsLinkOperation (i : Instr) : Prop :=
  i = .tick ∨ i = .commit ∨ (∃ b, i = .shiftbit b) ∨ (∃ b, i = .txbyte b) ∨
    (∃ sel high low, i = .emitframe sel high low)

/-- SET, GET, FILL and FILLLAYER touch the grid, the results and the SETs owed only. -/
theorem gridOperation_rest {i : Instr} {s t : State} (hi : IsGridOperation i) (h : exec i s = .next t) :
    ∃ g res pen, t = { s with grid := g, results := res, pending := pen } := by
  obtain ⟨l, c, v, rfl⟩ | ⟨l, c, rfl⟩ | ⟨v, rfl⟩ | ⟨l, v, rfl⟩ := hi
  · obtain ⟨-, -, -, rfl⟩ := execSet_next h
    exact ⟨_, _, _, rfl⟩
  · obtain ⟨-, -, rfl⟩ := execGet_next h
    exact ⟨_, _, _, rfl⟩
  · obtain ⟨-, -, rfl⟩ := execFill_next h
    exact ⟨_, _, _, rfl⟩
  · obtain ⟨-, -, -, rfl⟩ := execFilllayer_next h
    exact ⟨_, _, _, rfl⟩

/-- The serializer's operations and TICK touch the cursor, the pins, the trace and the chain only, and the serializer's
leave the cursor. -/
theorem linkOperation_rest {i : Instr} {s t : State} (hi : IsLinkOperation i) (h : exec i s = .next t) :
    ∃ cur p tr sh la, t = { s with cur := cur, pins := p, trace := tr, shadow := sh, latched := la } ∧
      (i ≠ .tick → cur = s.cur) := by
  obtain rfl | rfl | ⟨b, rfl⟩ | ⟨b, rfl⟩ | ⟨sel, high, low, rfl⟩ := hi
  · obtain ⟨-, rfl⟩ := execTick_next h
    obtain ⟨_, _, _, _, hrest⟩ := tickBody_rest s
    exact ⟨_, _, _, _, _, hrest, fun hne => absurd rfl hne⟩
  · obtain ⟨_, _, _, _, hrest⟩ := commitFrame_rest s
    exact ⟨_, _, _, _, _, (Host.Outcome.next.inj h).symm.trans hrest, fun _ => rfl⟩
  · obtain ⟨_, _, _, _, hrest⟩ := shiftBit_rest b s
    exact ⟨_, _, _, _, _, (Host.Outcome.next.inj h).symm.trans hrest, fun _ => rfl⟩
  · obtain ⟨_, _, _, _, hrest⟩ := txByte_rest b s
    exact ⟨_, _, _, _, _, (Host.Outcome.next.inj h).symm.trans hrest, fun _ => rfl⟩
  · obtain ⟨_, _, _, _, hrest⟩ := emitFrame_rest sel high low s
    exact ⟨_, _, _, _, _, (Host.Outcome.next.inj h).symm.trans hrest, fun _ => rfl⟩

/-- Settles O29: the frames of the two families. -/
theorem gridAndLinkAreSeparate : Obligations.GridAndLinkAreSeparate := by
  refine ⟨fun i s t hi h => ?grid, fun i s t hi h => ?link⟩
  case grid =>
    obtain ⟨_, _, _, rfl⟩ := gridOperation_rest hi h
    exact ⟨rfl, rfl, rfl, rfl, rfl⟩
  case link =>
    obtain ⟨_, _, _, _, _, rfl, -⟩ := linkOperation_rest hi h
    exact ⟨rfl, rfl, rfl⟩

/-- An operation that answers a next state is RESET, IDLE, or of one of the two families. -/
theorem exec_next_cases {i : Instr} {s t : State} (h : exec i s = .next t) :
    i = .reset ∨ i = .idle ∨ IsGridOperation i ∨ IsLinkOperation i := by
  cases i with
  | reservedTickAndWe => nomatch h
  | _ => simp [IsGridOperation, IsLinkOperation]

/-- No operation writes the configuration. -/
theorem exec_cfg {i : Instr} {s t : State} (h : exec i s = .next t) : t.cfg = s.cfg := by
  obtain rfl | rfl | hi | hi := exec_next_cases h
  · rw [← Host.Outcome.next.inj h]
    rfl
  · rw [← Host.Outcome.next.inj h]
  · obtain ⟨_, _, _, rfl⟩ := gridOperation_rest hi h
    rfl
  · obtain ⟨_, _, _, _, _, rfl, -⟩ := linkOperation_rest hi h
    rfl

/-- Settles O57: neither taking the request nor the operation writes the configuration. -/
theorem configurationNeverChanges : Obligations.ConfigurationNeverChanges := by
  intro s t h
  obtain ⟨-, i, -, hexec⟩ := step_next h
  rw [exec_cfg hexec, nextRequest_cfg]

/-- Settles O58: only RESET and TICK have a frame that leaves the cursor out. -/
theorem cursorIsTheTicksAlone : Obligations.CursorIsTheTicksAlone := by
  intro i s t htick hreset h
  obtain rfl | rfl | hi | hi := exec_next_cases h
  · exact absurd rfl hreset
  · rw [← Host.Outcome.next.inj h]
  · obtain ⟨_, _, _, rfl⟩ := gridOperation_rest hi h
    rfl
  · obtain ⟨_, _, _, _, _, rfl, hcur⟩ := linkOperation_rest hi h
    exact hcur htick

/-! The outputs, 10_state.md R38 (c) and (d). -/

/-- A tick from low pins ends with the outputs showing its frame. -/
theorem tickBody_frameShown (s : State) (hc : s.pins.clock = false) (hl : s.pins.latch = false) :
    FrameShown (tickBody s) ∧ (tickBody s).latched = frame s.grid (tickBody s).cur s.cfg.layerMaskBase := by
  rw [tickBody_of_low s hc hl]
  refine ⟨⟨rfl, ?data, frame_layerByte s.grid (advance s.cur) _⟩, rfl⟩
  case data =>
    refine ((columnBytesBitByBit s.grid _ _ 0 (by decide)).1).trans ?_
    exact (frame_column s.grid (advance s.cur) _ 0 (by decide)).symm

/-- Settles O55: the tick shows its frame, and the frames of IDLE and the grid operations hold everything `FrameShown`
speaks of. -/
theorem shownFrameIsKept : Obligations.ShownFrameIsKept := by
  refine ⟨fun s t hc hl h => ?tick, fun i s t hshown hi h => ?others⟩
  case tick =>
    obtain ⟨-, rfl⟩ := execTick_next h
    exact tickBody_frameShown s hc hl
  case others =>
    obtain rfl | hi := hi
    · rw [← Host.Outcome.next.inj h]
      exact ⟨hshown, rfl⟩
    · obtain ⟨_, _, _, rfl⟩ := gridOperation_rest hi h
      exact ⟨hshown, rfl⟩

/-! The invariant, 10_state.md R38 (a) and (b). -/

/-- Settles O52. -/
theorem resetMeetsTheInvariant : Obligations.ResetMeetsTheInvariant :=
  ⟨gridWf_reset, rfl, rfl, by decide, rfl⟩

/-- Each SET that cells of the grid are owed is a SET request. -/
theorem all_isSetRequest_expandSets {order : List Nat} {v : Nat} (hv : v < 256) (h : ∀ a ∈ order, a < 64) :
    (expandSets order v).all isSetRequest = true := by
  rw [expandSets_eq, List.all_map, List.all_eq_true]
  intro a ha
  rw [Function.comp_apply, isSetRequest, decode_cellSet v a (h a ha) hv]

/-- Owing SETs of cells of the grid keeps the invariant. -/
theorem queueSets_keeps_inv {order : List Nat} {v : Nat} {s : State} (hinv : Inv s) (hv : v < 256)
    (h : ∀ a ∈ order, a < 64) : Inv (queueSets order v s) := by
  obtain ⟨hwf, hclock, hlatch, hcfg, howed⟩ := hinv
  refine ⟨hwf, hclock, hlatch, hcfg, ?_⟩
  rw [queueSets, State.setPending_pending, List.all_append, howed, all_isSetRequest_expandSets hv h]
  rfl

/-- Every operation keeps the invariant. -/
theorem exec_keeps_inv {i : Instr} {s t : State} (hinv : Inv s) (h : exec i s = .next t) : Inv t := by
  have ⟨hwf, hclock, hlatch, hcfg, howed⟩ := hinv
  cases i with
  | reset =>
    rw [← Host.Outcome.next.inj h]
    exact ⟨rfl, rfl, rfl, hcfg, howed⟩
  | reservedTickAndWe => nomatch h
  | idle =>
    rw [← Host.Outcome.next.inj h]
    exact hinv
  | tick =>
    obtain ⟨-, rfl⟩ := execTick_next h
    rw [tickBody_of_low s hclock hlatch]
    exact ⟨hwf, rfl, rfl, hcfg, howed⟩
  | shiftbit b =>
    rw [← Host.Outcome.next.inj h, shiftBit_of_clock_low b s hclock]
    exact ⟨hwf, rfl, hlatch, hcfg, howed⟩
  | txbyte b =>
    rw [← Host.Outcome.next.inj h, txByte_of_clock_low b s hclock]
    exact ⟨hwf, rfl, hlatch, hcfg, howed⟩
  | commit =>
    rw [← Host.Outcome.next.inj h, commitFrame_of_latch_low s hlatch]
    exact ⟨hwf, hclock, rfl, hcfg, howed⟩
  | emitframe sel high low =>
    rw [← Host.Outcome.next.inj h, emitFrame_of_low sel high low s hclock hlatch]
    exact ⟨hwf, rfl, rfl, hcfg, howed⟩
  | set l c v =>
    obtain ⟨hl, hc, -, rfl⟩ := execSet_next h
    have ha := cellAddr_lt l c (Nat.lt_succ_of_le hl) (Nat.lt_succ_of_le hc)
    exact ⟨gridWf_writeCell s _ _ ha hwf, hclock, hlatch, hcfg, howed⟩
  | get l c =>
    obtain ⟨-, -, rfl⟩ := execGet_next h
    exact hinv
  | fill v =>
    obtain ⟨hv, horder, rfl⟩ := execFill_next h
    exact queueSets_keeps_inv hinv (Nat.lt_succ_of_le hv) fun a ha => (mem_of_isOrderOf horder a).1 ha
  | filllayer l v =>
    obtain ⟨hl, hv, horder, rfl⟩ := execFilllayer_next h
    refine queueSets_keeps_inv hinv (Nat.lt_succ_of_le hv) fun a ha => ?_
    have hlayer := (mem_layerCells horder l a).1 ha
    omega

/-- The foreground's turn adds no SET to those owed. -/
theorem foregroundTurn_pending_suffix (s : State) : (foregroundTurn s).2.pending <:+ s.pending := by
  cases hp : s.pending with
  | nil =>
    rw [foregroundTurn_nil hp, hp]
  | cons r owed =>
    rw [foregroundTurn_owed hp]
    exact List.suffix_cons r owed

/-- Taking a request adds no SET to those owed. -/
theorem nextRequest_pending_suffix (s : State) : (nextRequest s).2.pending <:+ s.pending := by
  cases hin : s.input with
  | nil =>
    rw [nextRequest_nil hin]
    exact foregroundTurn_pending_suffix s
  | cons turn rest =>
    cases turn with
    | preempt r =>
      rw [nextRequest_preempt hin]
      exact List.suffix_rfl
    | foreground =>
      rw [nextRequest_foreground hin]
      exact foregroundTurn_pending_suffix (s.setInput rest)
    | request r =>
      cases hp : s.pending with
      | nil =>
        rw [nextRequest_request hin hp, State.setInput_pending, hp]
      | cons r' owed =>
        rw [nextRequest_request_waits hin hp]
        exact List.suffix_cons r' owed

/-- Taking a request keeps the invariant. -/
theorem nextRequest_keeps_inv {s : State} (hinv : Inv s) : Inv (nextRequest s).2 := by
  obtain ⟨hwf, hclock, hlatch, hcfg, howed⟩ := hinv
  have hsuffix := nextRequest_pending_suffix s
  obtain ⟨_, _, hrest⟩ := nextRequest_rest s
  rw [hrest] at hsuffix ⊢
  rw [List.all_eq_true] at howed
  exact ⟨hwf, hclock, hlatch, hcfg, List.all_eq_true.2 fun r hr => howed r (hsuffix.subset hr)⟩

/-- Settles O53: a step takes a request and performs an operation, and both keep the invariant. -/
theorem stepKeepsTheInvariant : Obligations.StepKeepsTheInvariant := by
  intro s t hinv h
  obtain ⟨-, i, -, hexec⟩ := step_next h
  exact exec_keeps_inv (nextRequest_keeps_inv hinv) hexec

/-! The durations, 70_reset_and_hazards.md R260. -/

theorem pinWrite_setDurations (x : Pin) (b : Bool) (s : State) (tTick tSettle : Nat) :
    pinWrite x b (s.setDurations tTick tSettle) = (pinWrite x b s).setDurations tTick tSettle := by
  cases x with
  | data => rfl
  | clock => rw [pinWrite_clock, pinWrite_clock]; rfl
  | latch => rw [pinWrite_latch, pinWrite_latch]; rfl

theorem applyPinWrites_setDurations (ws : List PinWrite) (s : State) (tTick tSettle : Nat) :
    applyPinWrites ws (s.setDurations tTick tSettle) = (applyPinWrites ws s).setDurations tTick tSettle := by
  induction ws generalizing s with
  | nil => rfl
  | cons w ws ih => rw [applyPinWrites_cons, pinWrite_setDurations, ih, applyPinWrites_cons]

/-- The body of a tick is the pin writes of the frame it shows, at the advanced cursor. -/
theorem tickBody_eq_applyPinWrites (s : State) :
    tickBody s = applyPinWrites (frameTrace (frame s.grid (advance s.cur) s.cfg.layerMaskBase))
      (s.setCur (advance s.cur)) := emitFrame_eq_applyPinWrites _ _ _ (s.setCur (advance s.cur))

theorem tickBody_setDurations (s : State) (tTick tSettle : Nat) :
    tickBody (s.setDurations tTick tSettle) = (tickBody s).setDurations tTick tSettle := by
  rw [tickBody_eq_applyPinWrites s, ← applyPinWrites_setDurations]
  exact tickBody_eq_applyPinWrites (s.setDurations tTick tSettle)

/-- A check that does not look at the state lets a change of the next state through. -/
theorem mapNext_unlessViolated (f : State → State) (found : Option ContractCause)
    (go : Host.Outcome State Fault Refusal) :
    mapNext f (unlessViolated found go) = unlessViolated found (mapNext f go) := by
  cases found <;> rfl

/-- A test that does not look at the state lets a change of the next state through. -/
theorem mapNext_ite (f : State → State) (p : Prop) [Decidable p] (go other : Host.Outcome State Fault Refusal) :
    mapNext f (if p then go else other) = if p then mapNext f go else mapNext f other := apply_ite (mapNext f) p go other

/-- Settles O56: the serializer's operations and TICK are sequences of pin writes, and the others read nothing of the
configuration but the fill orders. -/
theorem durationsChangeNothing : Obligations.DurationsChangeNothing := by
  intro i s tTick tSettle
  have hwrites (ws : List PinWrite) := applyPinWrites_setDurations ws s tTick tSettle
  cases i with
  | reset => rfl
  | reservedTickAndWe => rfl
  | idle => rfl
  | tick =>
    change execTick _ = mapNext _ (execTick s)
    rw [execTick, execTick, mapNext_ite, tickBody_setDurations]
    rfl
  | shiftbit b =>
    rw [exec_shiftbit, exec_shiftbit, shiftBit_eq_applyPinWrites, shiftBit_eq_applyPinWrites, hwrites]
    rfl
  | txbyte b =>
    rw [exec_txbyte, exec_txbyte, txByte_eq_applyPinWrites, txByte_eq_applyPinWrites, hwrites]
    rfl
  | commit =>
    rw [exec_commit, exec_commit, commitFrame_eq_applyPinWrites, commitFrame_eq_applyPinWrites, hwrites]
    rfl
  | emitframe sel high low =>
    rw [exec_emitframe, exec_emitframe, emitFrame_eq_applyPinWrites, emitFrame_eq_applyPinWrites, hwrites]
    rfl
  | set l c v =>
    rw [exec_set_eq, exec_set_eq, mapNext_unlessViolated]
    rfl
  | get l c =>
    rw [exec_get_eq, exec_get_eq, mapNext_unlessViolated]
    rfl
  | fill v =>
    rw [exec_fill_eq, exec_fill_eq, mapNext_unlessViolated, mapNext_ite]
    rfl
  | filllayer l v =>
    rw [exec_filllayer_eq, exec_filllayer_eq, mapNext_unlessViolated, mapNext_ite]
    rfl

end Sys2Proof.Machine
end
